-- ==== Sys2Proof/Word.lean ====
section
/-! DEFINITION. The two data widths of the machine (00_scope.md R6). -/

namespace Sys2Proof

/-- A byte: 8 bits (R6). -/
abbrev Byte := BitVec 8

/-- A 16-bit word: pc, addresses, operand words (R6). -/
abbrev Word := BitVec 16

end Sys2Proof
end

