-- ==== Sys2Proof/Syntax.lean ====
section
/-! DEFINITION. The instructions: one constructor of `Instr` per row of spec/opcode_table.json (30_encoding.md R84, R90),
with the operand field of its format (R81, R82); the 56 mnemonics and the 14 formats; the view of an instruction as
(mnemonic, format, operand). -/

namespace Sys2Proof

/-- The 56 mnemonics (R2, R90). -/
inductive Mnemonic where
  | lda | ldx | ldy | sta | stx | sty | tax | tay | txa | tya | tsx | txs | and | ora
  | eor | bit | adc | sbc | cmp | cpx | cpy | asl | lsr | rol | ror | inc | dec | inx
  | iny | dex | dey | pha | php | pla | plp | clc | sec | cli | sei | cld | sed | clv
  | nop | bcc | bcs | beq | bne | bmi | bpl | bvc | bvs | jmp | jsr | rts | brk | rti
  deriving DecidableEq, Repr

/-- The instruction formats of R81. -/
inductive Format where
  | imp | acc | imm | zp | zpx | zpy | izx | izy | rel | abs | abx | aby | ind | pad
  deriving DecidableEq, Repr

/-- One constructor per (mnemonic, format) pair of R84. A byte operand is `imm8`, `zp8`, `rel8` or `pad8`, a word operand
is `abs16` (R82). `brk` carries its padding byte so that no bit of an encoding is lost; no meaning reads it (R113). -/
inductive Instr where
  -- LoadStore
  | ldaImm (v : Byte)
  | ldaZp (zp : Byte)
  | ldaZpx (zp : Byte)
  | ldaAbs (w : Word)
  | ldaAbx (w : Word)
  | ldaAby (w : Word)
  | ldaIzx (zp : Byte)
  | ldaIzy (zp : Byte)
  | ldxImm (v : Byte)
  | ldxZp (zp : Byte)
  | ldxZpy (zp : Byte)
  | ldxAbs (w : Word)
  | ldxAby (w : Word)
  | ldyImm (v : Byte)
  | ldyZp (zp : Byte)
  | ldyZpx (zp : Byte)
  | ldyAbs (w : Word)
  | ldyAbx (w : Word)
  | staZp (zp : Byte)
  | staZpx (zp : Byte)
  | staAbs (w : Word)
  | staAbx (w : Word)
  | staAby (w : Word)
  | staIzx (zp : Byte)
  | staIzy (zp : Byte)
  | stxZp (zp : Byte)
  | stxZpy (zp : Byte)
  | stxAbs (w : Word)
  | styZp (zp : Byte)
  | styZpx (zp : Byte)
  | styAbs (w : Word)
  | tax
  | tay
  | txa
  | tya
  | tsx
  | txs
  -- Logic
  | andImm (v : Byte)
  | andZp (zp : Byte)
  | andZpx (zp : Byte)
  | andAbs (w : Word)
  | andAbx (w : Word)
  | andAby (w : Word)
  | andIzx (zp : Byte)
  | andIzy (zp : Byte)
  | oraImm (v : Byte)
  | oraZp (zp : Byte)
  | oraZpx (zp : Byte)
  | oraAbs (w : Word)
  | oraAbx (w : Word)
  | oraAby (w : Word)
  | oraIzx (zp : Byte)
  | oraIzy (zp : Byte)
  | eorImm (v : Byte)
  | eorZp (zp : Byte)
  | eorZpx (zp : Byte)
  | eorAbs (w : Word)
  | eorAbx (w : Word)
  | eorAby (w : Word)
  | eorIzx (zp : Byte)
  | eorIzy (zp : Byte)
  | bitZp (zp : Byte)
  | bitAbs (w : Word)
  -- Arith
  | adcImm (v : Byte)
  | adcZp (zp : Byte)
  | adcZpx (zp : Byte)
  | adcAbs (w : Word)
  | adcAbx (w : Word)
  | adcAby (w : Word)
  | adcIzx (zp : Byte)
  | adcIzy (zp : Byte)
  | sbcImm (v : Byte)
  | sbcZp (zp : Byte)
  | sbcZpx (zp : Byte)
  | sbcAbs (w : Word)
  | sbcAbx (w : Word)
  | sbcAby (w : Word)
  | sbcIzx (zp : Byte)
  | sbcIzy (zp : Byte)
  | cmpImm (v : Byte)
  | cmpZp (zp : Byte)
  | cmpZpx (zp : Byte)
  | cmpAbs (w : Word)
  | cmpAbx (w : Word)
  | cmpAby (w : Word)
  | cmpIzx (zp : Byte)
  | cmpIzy (zp : Byte)
  | cpxImm (v : Byte)
  | cpxZp (zp : Byte)
  | cpxAbs (w : Word)
  | cpyImm (v : Byte)
  | cpyZp (zp : Byte)
  | cpyAbs (w : Word)
  -- Shift
  | aslAcc
  | aslZp (zp : Byte)
  | aslZpx (zp : Byte)
  | aslAbs (w : Word)
  | aslAbx (w : Word)
  | lsrAcc
  | lsrZp (zp : Byte)
  | lsrZpx (zp : Byte)
  | lsrAbs (w : Word)
  | lsrAbx (w : Word)
  | rolAcc
  | rolZp (zp : Byte)
  | rolZpx (zp : Byte)
  | rolAbs (w : Word)
  | rolAbx (w : Word)
  | rorAcc
  | rorZp (zp : Byte)
  | rorZpx (zp : Byte)
  | rorAbs (w : Word)
  | rorAbx (w : Word)
  | incZp (zp : Byte)
  | incZpx (zp : Byte)
  | incAbs (w : Word)
  | incAbx (w : Word)
  | decZp (zp : Byte)
  | decZpx (zp : Byte)
  | decAbs (w : Word)
  | decAbx (w : Word)
  | inx
  | iny
  | dex
  | dey
  -- Stack
  | pha
  | php
  | pla
  | plp
  | clc
  | sec
  | cli
  | sei
  | cld
  | sed
  | clv
  | nop
  -- Control
  | bcc (rel : Byte)
  | bcs (rel : Byte)
  | beq (rel : Byte)
  | bne (rel : Byte)
  | bmi (rel : Byte)
  | bpl (rel : Byte)
  | bvc (rel : Byte)
  | bvs (rel : Byte)
  | jmpAbs (w : Word)
  | jmpInd (w : Word)
  | jsr (w : Word)
  | rts
  | brk (pad : Byte)
  | rti
  deriving DecidableEq, Repr

/-- How many operand bytes follow the opcode (R81). -/
def Format.operandBytes : Format → Nat
  | .imp | .acc => 0
  | .imm | .zp | .zpx | .zpy | .izx | .izy | .rel | .pad => 1
  | .abs | .abx | .aby | .ind => 2

/-- The length of an instruction in bytes, fixed by its format (R80, R83). -/
def Format.length (f : Format) : Nat := 1 + f.operandBytes

/-- An instruction written as mnemonic, format and operand value, as R88 writes it; not every value of this type is an
instruction, see WellFormed.lean. -/
structure Line where
  mnemonic : Mnemonic
  format   : Format
  operand  : Nat
  deriving DecidableEq, Repr

/-- Each constructor's row of R90, with the value of its operand field (0 where the format has none). -/
def Instr.toLine : Instr → Line
  | .ldaImm v => ⟨.lda, .imm, v.toNat⟩
  | .ldaZp zp => ⟨.lda, .zp, zp.toNat⟩
  | .ldaZpx zp => ⟨.lda, .zpx, zp.toNat⟩
  | .ldaAbs w => ⟨.lda, .abs, w.toNat⟩
  | .ldaAbx w => ⟨.lda, .abx, w.toNat⟩
  | .ldaAby w => ⟨.lda, .aby, w.toNat⟩
  | .ldaIzx zp => ⟨.lda, .izx, zp.toNat⟩
  | .ldaIzy zp => ⟨.lda, .izy, zp.toNat⟩
  | .ldxImm v => ⟨.ldx, .imm, v.toNat⟩
  | .ldxZp zp => ⟨.ldx, .zp, zp.toNat⟩
  | .ldxZpy zp => ⟨.ldx, .zpy, zp.toNat⟩
  | .ldxAbs w => ⟨.ldx, .abs, w.toNat⟩
  | .ldxAby w => ⟨.ldx, .aby, w.toNat⟩
  | .ldyImm v => ⟨.ldy, .imm, v.toNat⟩
  | .ldyZp zp => ⟨.ldy, .zp, zp.toNat⟩
  | .ldyZpx zp => ⟨.ldy, .zpx, zp.toNat⟩
  | .ldyAbs w => ⟨.ldy, .abs, w.toNat⟩
  | .ldyAbx w => ⟨.ldy, .abx, w.toNat⟩
  | .staZp zp => ⟨.sta, .zp, zp.toNat⟩
  | .staZpx zp => ⟨.sta, .zpx, zp.toNat⟩
  | .staAbs w => ⟨.sta, .abs, w.toNat⟩
  | .staAbx w => ⟨.sta, .abx, w.toNat⟩
  | .staAby w => ⟨.sta, .aby, w.toNat⟩
  | .staIzx zp => ⟨.sta, .izx, zp.toNat⟩
  | .staIzy zp => ⟨.sta, .izy, zp.toNat⟩
  | .stxZp zp => ⟨.stx, .zp, zp.toNat⟩
  | .stxZpy zp => ⟨.stx, .zpy, zp.toNat⟩
  | .stxAbs w => ⟨.stx, .abs, w.toNat⟩
  | .styZp zp => ⟨.sty, .zp, zp.toNat⟩
  | .styZpx zp => ⟨.sty, .zpx, zp.toNat⟩
  | .styAbs w => ⟨.sty, .abs, w.toNat⟩
  | .tax => ⟨.tax, .imp, 0⟩
  | .tay => ⟨.tay, .imp, 0⟩
  | .txa => ⟨.txa, .imp, 0⟩
  | .tya => ⟨.tya, .imp, 0⟩
  | .tsx => ⟨.tsx, .imp, 0⟩
  | .txs => ⟨.txs, .imp, 0⟩
  | .andImm v => ⟨.and, .imm, v.toNat⟩
  | .andZp zp => ⟨.and, .zp, zp.toNat⟩
  | .andZpx zp => ⟨.and, .zpx, zp.toNat⟩
  | .andAbs w => ⟨.and, .abs, w.toNat⟩
  | .andAbx w => ⟨.and, .abx, w.toNat⟩
  | .andAby w => ⟨.and, .aby, w.toNat⟩
  | .andIzx zp => ⟨.and, .izx, zp.toNat⟩
  | .andIzy zp => ⟨.and, .izy, zp.toNat⟩
  | .oraImm v => ⟨.ora, .imm, v.toNat⟩
  | .oraZp zp => ⟨.ora, .zp, zp.toNat⟩
  | .oraZpx zp => ⟨.ora, .zpx, zp.toNat⟩
  | .oraAbs w => ⟨.ora, .abs, w.toNat⟩
  | .oraAbx w => ⟨.ora, .abx, w.toNat⟩
  | .oraAby w => ⟨.ora, .aby, w.toNat⟩
  | .oraIzx zp => ⟨.ora, .izx, zp.toNat⟩
  | .oraIzy zp => ⟨.ora, .izy, zp.toNat⟩
  | .eorImm v => ⟨.eor, .imm, v.toNat⟩
  | .eorZp zp => ⟨.eor, .zp, zp.toNat⟩
  | .eorZpx zp => ⟨.eor, .zpx, zp.toNat⟩
  | .eorAbs w => ⟨.eor, .abs, w.toNat⟩
  | .eorAbx w => ⟨.eor, .abx, w.toNat⟩
  | .eorAby w => ⟨.eor, .aby, w.toNat⟩
  | .eorIzx zp => ⟨.eor, .izx, zp.toNat⟩
  | .eorIzy zp => ⟨.eor, .izy, zp.toNat⟩
  | .bitZp zp => ⟨.bit, .zp, zp.toNat⟩
  | .bitAbs w => ⟨.bit, .abs, w.toNat⟩
  | .adcImm v => ⟨.adc, .imm, v.toNat⟩
  | .adcZp zp => ⟨.adc, .zp, zp.toNat⟩
  | .adcZpx zp => ⟨.adc, .zpx, zp.toNat⟩
  | .adcAbs w => ⟨.adc, .abs, w.toNat⟩
  | .adcAbx w => ⟨.adc, .abx, w.toNat⟩
  | .adcAby w => ⟨.adc, .aby, w.toNat⟩
  | .adcIzx zp => ⟨.adc, .izx, zp.toNat⟩
  | .adcIzy zp => ⟨.adc, .izy, zp.toNat⟩
  | .sbcImm v => ⟨.sbc, .imm, v.toNat⟩
  | .sbcZp zp => ⟨.sbc, .zp, zp.toNat⟩
  | .sbcZpx zp => ⟨.sbc, .zpx, zp.toNat⟩
  | .sbcAbs w => ⟨.sbc, .abs, w.toNat⟩
  | .sbcAbx w => ⟨.sbc, .abx, w.toNat⟩
  | .sbcAby w => ⟨.sbc, .aby, w.toNat⟩
  | .sbcIzx zp => ⟨.sbc, .izx, zp.toNat⟩
  | .sbcIzy zp => ⟨.sbc, .izy, zp.toNat⟩
  | .cmpImm v => ⟨.cmp, .imm, v.toNat⟩
  | .cmpZp zp => ⟨.cmp, .zp, zp.toNat⟩
  | .cmpZpx zp => ⟨.cmp, .zpx, zp.toNat⟩
  | .cmpAbs w => ⟨.cmp, .abs, w.toNat⟩
  | .cmpAbx w => ⟨.cmp, .abx, w.toNat⟩
  | .cmpAby w => ⟨.cmp, .aby, w.toNat⟩
  | .cmpIzx zp => ⟨.cmp, .izx, zp.toNat⟩
  | .cmpIzy zp => ⟨.cmp, .izy, zp.toNat⟩
  | .cpxImm v => ⟨.cpx, .imm, v.toNat⟩
  | .cpxZp zp => ⟨.cpx, .zp, zp.toNat⟩
  | .cpxAbs w => ⟨.cpx, .abs, w.toNat⟩
  | .cpyImm v => ⟨.cpy, .imm, v.toNat⟩
  | .cpyZp zp => ⟨.cpy, .zp, zp.toNat⟩
  | .cpyAbs w => ⟨.cpy, .abs, w.toNat⟩
  | .aslAcc => ⟨.asl, .acc, 0⟩
  | .aslZp zp => ⟨.asl, .zp, zp.toNat⟩
  | .aslZpx zp => ⟨.asl, .zpx, zp.toNat⟩
  | .aslAbs w => ⟨.asl, .abs, w.toNat⟩
  | .aslAbx w => ⟨.asl, .abx, w.toNat⟩
  | .lsrAcc => ⟨.lsr, .acc, 0⟩
  | .lsrZp zp => ⟨.lsr, .zp, zp.toNat⟩
  | .lsrZpx zp => ⟨.lsr, .zpx, zp.toNat⟩
  | .lsrAbs w => ⟨.lsr, .abs, w.toNat⟩
  | .lsrAbx w => ⟨.lsr, .abx, w.toNat⟩
  | .rolAcc => ⟨.rol, .acc, 0⟩
  | .rolZp zp => ⟨.rol, .zp, zp.toNat⟩
  | .rolZpx zp => ⟨.rol, .zpx, zp.toNat⟩
  | .rolAbs w => ⟨.rol, .abs, w.toNat⟩
  | .rolAbx w => ⟨.rol, .abx, w.toNat⟩
  | .rorAcc => ⟨.ror, .acc, 0⟩
  | .rorZp zp => ⟨.ror, .zp, zp.toNat⟩
  | .rorZpx zp => ⟨.ror, .zpx, zp.toNat⟩
  | .rorAbs w => ⟨.ror, .abs, w.toNat⟩
  | .rorAbx w => ⟨.ror, .abx, w.toNat⟩
  | .incZp zp => ⟨.inc, .zp, zp.toNat⟩
  | .incZpx zp => ⟨.inc, .zpx, zp.toNat⟩
  | .incAbs w => ⟨.inc, .abs, w.toNat⟩
  | .incAbx w => ⟨.inc, .abx, w.toNat⟩
  | .decZp zp => ⟨.dec, .zp, zp.toNat⟩
  | .decZpx zp => ⟨.dec, .zpx, zp.toNat⟩
  | .decAbs w => ⟨.dec, .abs, w.toNat⟩
  | .decAbx w => ⟨.dec, .abx, w.toNat⟩
  | .inx => ⟨.inx, .imp, 0⟩
  | .iny => ⟨.iny, .imp, 0⟩
  | .dex => ⟨.dex, .imp, 0⟩
  | .dey => ⟨.dey, .imp, 0⟩
  | .pha => ⟨.pha, .imp, 0⟩
  | .php => ⟨.php, .imp, 0⟩
  | .pla => ⟨.pla, .imp, 0⟩
  | .plp => ⟨.plp, .imp, 0⟩
  | .clc => ⟨.clc, .imp, 0⟩
  | .sec => ⟨.sec, .imp, 0⟩
  | .cli => ⟨.cli, .imp, 0⟩
  | .sei => ⟨.sei, .imp, 0⟩
  | .cld => ⟨.cld, .imp, 0⟩
  | .sed => ⟨.sed, .imp, 0⟩
  | .clv => ⟨.clv, .imp, 0⟩
  | .nop => ⟨.nop, .imp, 0⟩
  | .bcc rel => ⟨.bcc, .rel, rel.toNat⟩
  | .bcs rel => ⟨.bcs, .rel, rel.toNat⟩
  | .beq rel => ⟨.beq, .rel, rel.toNat⟩
  | .bne rel => ⟨.bne, .rel, rel.toNat⟩
  | .bmi rel => ⟨.bmi, .rel, rel.toNat⟩
  | .bpl rel => ⟨.bpl, .rel, rel.toNat⟩
  | .bvc rel => ⟨.bvc, .rel, rel.toNat⟩
  | .bvs rel => ⟨.bvs, .rel, rel.toNat⟩
  | .jmpAbs w => ⟨.jmp, .abs, w.toNat⟩
  | .jmpInd w => ⟨.jmp, .ind, w.toNat⟩
  | .jsr w => ⟨.jsr, .abs, w.toNat⟩
  | .rts => ⟨.rts, .imp, 0⟩
  | .brk pad => ⟨.brk, .pad, pad.toNat⟩
  | .rti => ⟨.rti, .imp, 0⟩

def Instr.mnemonic (i : Instr) : Mnemonic := i.toLine.mnemonic
def Instr.format (i : Instr) : Format := i.toLine.format
def Instr.length (i : Instr) : Nat := i.format.length

end Sys2Proof
end

