-- ==== Sys2Proof/Decode.lean ====
section
/-! DEFINITION. The decoder, written from the opcode matrix of 30_encoding.md R84, and the encoder, written from the table by
mnemonic of R90. Also the byte-order helpers of R53, R55 and R82 and the numbering of opcode-table words. -/

namespace Sys2Proof

/-- `hi ++ lo` of R14: the little-endian word with this low and this high byte (R55). -/
def leWord (lo hi : Byte) : Word := hi ++ lo

/-- `v[7:0]`. -/
def loByte (w : Word) : Byte := w.extractLsb' 0 8

/-- `v[15:8]`. -/
def hiByte (w : Word) : Byte := w.extractLsb' 8 8

/-- `zext_16` of R14. -/
def zext16 (b : Byte) : Word := b.setWidth 16

/-- `sext_16` of R14. -/
def sext16 (b : Byte) : Word := b.signExtend 16

/-- A cell of the matrix of R84: illegal, or an instruction of one byte, or one that takes an operand byte or an operand
word (R81). -/
inductive Cell where
  | bad
  | one (i : Instr)
  | two (f : Byte → Instr)
  | three (f : Word → Instr)

/-- Why bytes are not an instruction: the opcode byte is illegal (R85), or the list ends before the operand does. -/
inductive DecodeReject where
  | illegalOpcode (op : Byte)
  | truncated (op : Byte)
  | noBytes
  deriving DecidableEq, Repr

/-- What decoding a list of bytes gives: an instruction and the bytes after it, or a named rejection. -/
inductive Decoded where
  | instr (i : Instr) (rest : List Byte)
  | reject (r : DecodeReject)
  deriving DecidableEq, Repr

/-- Row 0x of R84. -/
def matrixRow0 : List Cell :=
  [.two .brk, .two .oraIzx, .bad, .bad, .bad, .two .oraZp, .two .aslZp, .bad,
   .one .php, .two .oraImm, .one .aslAcc, .bad, .bad, .three .oraAbs, .three .aslAbs, .bad]

/-- Row 1x of R84. -/
def matrixRow1 : List Cell :=
  [.two .bpl, .two .oraIzy, .bad, .bad, .bad, .two .oraZpx, .two .aslZpx, .bad,
   .one .clc, .three .oraAby, .bad, .bad, .bad, .three .oraAbx, .three .aslAbx, .bad]

/-- Row 2x of R84. -/
def matrixRow2 : List Cell :=
  [.three .jsr, .two .andIzx, .bad, .bad, .two .bitZp, .two .andZp, .two .rolZp, .bad,
   .one .plp, .two .andImm, .one .rolAcc, .bad, .three .bitAbs, .three .andAbs, .three .rolAbs, .bad]

/-- Row 3x of R84. -/
def matrixRow3 : List Cell :=
  [.two .bmi, .two .andIzy, .bad, .bad, .bad, .two .andZpx, .two .rolZpx, .bad,
   .one .sec, .three .andAby, .bad, .bad, .bad, .three .andAbx, .three .rolAbx, .bad]

/-- Row 4x of R84. -/
def matrixRow4 : List Cell :=
  [.one .rti, .two .eorIzx, .bad, .bad, .bad, .two .eorZp, .two .lsrZp, .bad,
   .one .pha, .two .eorImm, .one .lsrAcc, .bad, .three .jmpAbs, .three .eorAbs, .three .lsrAbs, .bad]

/-- Row 5x of R84. -/
def matrixRow5 : List Cell :=
  [.two .bvc, .two .eorIzy, .bad, .bad, .bad, .two .eorZpx, .two .lsrZpx, .bad,
   .one .cli, .three .eorAby, .bad, .bad, .bad, .three .eorAbx, .three .lsrAbx, .bad]

/-- Row 6x of R84. -/
def matrixRow6 : List Cell :=
  [.one .rts, .two .adcIzx, .bad, .bad, .bad, .two .adcZp, .two .rorZp, .bad,
   .one .pla, .two .adcImm, .one .rorAcc, .bad, .three .jmpInd, .three .adcAbs, .three .rorAbs, .bad]

/-- Row 7x of R84. -/
def matrixRow7 : List Cell :=
  [.two .bvs, .two .adcIzy, .bad, .bad, .bad, .two .adcZpx, .two .rorZpx, .bad,
   .one .sei, .three .adcAby, .bad, .bad, .bad, .three .adcAbx, .three .rorAbx, .bad]

/-- Row 8x of R84. -/
def matrixRow8 : List Cell :=
  [.bad, .two .staIzx, .bad, .bad, .two .styZp, .two .staZp, .two .stxZp, .bad,
   .one .dey, .bad, .one .txa, .bad, .three .styAbs, .three .staAbs, .three .stxAbs, .bad]

/-- Row 9x of R84. -/
def matrixRow9 : List Cell :=
  [.two .bcc, .two .staIzy, .bad, .bad, .two .styZpx, .two .staZpx, .two .stxZpy, .bad,
   .one .tya, .three .staAby, .one .txs, .bad, .bad, .three .staAbx, .bad, .bad]

/-- Row Ax of R84. -/
def matrixRowA : List Cell :=
  [.two .ldyImm, .two .ldaIzx, .two .ldxImm, .bad, .two .ldyZp, .two .ldaZp, .two .ldxZp, .bad,
   .one .tay, .two .ldaImm, .one .tax, .bad, .three .ldyAbs, .three .ldaAbs, .three .ldxAbs, .bad]

/-- Row Bx of R84. -/
def matrixRowB : List Cell :=
  [.two .bcs, .two .ldaIzy, .bad, .bad, .two .ldyZpx, .two .ldaZpx, .two .ldxZpy, .bad,
   .one .clv, .three .ldaAby, .one .tsx, .bad, .three .ldyAbx, .three .ldaAbx, .three .ldxAby, .bad]

/-- Row Cx of R84. -/
def matrixRowC : List Cell :=
  [.two .cpyImm, .two .cmpIzx, .bad, .bad, .two .cpyZp, .two .cmpZp, .two .decZp, .bad,
   .one .iny, .two .cmpImm, .one .dex, .bad, .three .cpyAbs, .three .cmpAbs, .three .decAbs, .bad]

/-- Row Dx of R84. -/
def matrixRowD : List Cell :=
  [.two .bne, .two .cmpIzy, .bad, .bad, .bad, .two .cmpZpx, .two .decZpx, .bad,
   .one .cld, .three .cmpAby, .bad, .bad, .bad, .three .cmpAbx, .three .decAbx, .bad]

/-- Row Ex of R84. -/
def matrixRowE : List Cell :=
  [.two .cpxImm, .two .sbcIzx, .bad, .bad, .two .cpxZp, .two .sbcZp, .two .incZp, .bad,
   .one .inx, .two .sbcImm, .one .nop, .bad, .three .cpxAbs, .three .sbcAbs, .three .incAbs, .bad]

/-- Row Fx of R84. -/
def matrixRowF : List Cell :=
  [.two .beq, .two .sbcIzy, .bad, .bad, .bad, .two .sbcZpx, .two .incZpx, .bad,
   .one .sed, .three .sbcAby, .bad, .bad, .bad, .three .sbcAbx, .three .incAbx, .bad]

/-- The matrix of R84: sixteen rows of sixteen cells. -/
def opcodeMatrix : List (List Cell) :=
  [matrixRow0, matrixRow1, matrixRow2, matrixRow3, matrixRow4, matrixRow5, matrixRow6, matrixRow7,
   matrixRow8, matrixRow9, matrixRowA, matrixRowB, matrixRowC, matrixRowD, matrixRowE, matrixRowF]

/-- The cell of an opcode byte: row = high nibble, column = low nibble (R84). -/
def opcodeCell (op : Byte) : Cell :=
  match opcodeMatrix[op.toNat / 16]? with
  | none => .bad
  | some row => (row[op.toNat % 16]?).getD .bad

/-- The 105 illegal opcode bytes as R85 lists them (`opcodeCell` is written from R84; that the two agree is a test). -/
def illegalOpcodes : List Byte :=
  [0x02, 0x03, 0x04, 0x07, 0x0B, 0x0C, 0x0F, 0x12, 0x13, 0x14, 0x17, 0x1A, 0x1B, 0x1C, 0x1F, 0x22, 0x23, 0x27, 0x2B, 0x2F, 0x32]
   ++ [0x33, 0x34, 0x37, 0x3A, 0x3B, 0x3C, 0x3F, 0x42, 0x43, 0x44, 0x47, 0x4B, 0x4F, 0x52, 0x53, 0x54, 0x57, 0x5A, 0x5B, 0x5C, 0x5F]
   ++ [0x62, 0x63, 0x64, 0x67, 0x6B, 0x6F, 0x72, 0x73, 0x74, 0x77, 0x7A, 0x7B, 0x7C, 0x7F, 0x80, 0x82, 0x83, 0x87, 0x89, 0x8B, 0x8F]
   ++ [0x92, 0x93, 0x97, 0x9B, 0x9C, 0x9E, 0x9F, 0xA3, 0xA7, 0xAB, 0xAF, 0xB2, 0xB3, 0xB7, 0xBB, 0xBF, 0xC2, 0xC3, 0xC7, 0xCB, 0xCF]
   ++ [0xD2, 0xD3, 0xD4, 0xD7, 0xDA, 0xDB, 0xDC, 0xDF, 0xE2, 0xE3, 0xE7, 0xEB, 0xEF, 0xF2, 0xF3, 0xF4, 0xF7, 0xFA, 0xFB, 0xFC, 0xFF]

/-- Decode the instruction at the head of a list of bytes. The opcode byte alone determines the format (R83); an operand
word is little-endian (R82). -/
def decode : List Byte → Decoded
  | [] => .reject .noBytes
  | op :: tail =>
    match opcodeCell op with
    | .bad => .reject (.illegalOpcode op)
    | .one i => .instr i tail
    | .two f =>
      match tail with
      | b :: rest => .instr (f b) rest
      | [] => .reject (.truncated op)
    | .three f =>
      match tail with
      | lo :: hi :: rest => .instr (f (leWord lo hi)) rest
      | _ => .reject (.truncated op)

/-- The bytes of an instruction: its opcode byte by R90, then its operand, low byte first (R82). -/
def encode : Instr → List Byte
  | .ldaImm v => [0xA9, v]
  | .ldaZp zp => [0xA5, zp]
  | .ldaZpx zp => [0xB5, zp]
  | .ldaAbs w => [0xAD, loByte w, hiByte w]
  | .ldaAbx w => [0xBD, loByte w, hiByte w]
  | .ldaAby w => [0xB9, loByte w, hiByte w]
  | .ldaIzx zp => [0xA1, zp]
  | .ldaIzy zp => [0xB1, zp]
  | .ldxImm v => [0xA2, v]
  | .ldxZp zp => [0xA6, zp]
  | .ldxZpy zp => [0xB6, zp]
  | .ldxAbs w => [0xAE, loByte w, hiByte w]
  | .ldxAby w => [0xBE, loByte w, hiByte w]
  | .ldyImm v => [0xA0, v]
  | .ldyZp zp => [0xA4, zp]
  | .ldyZpx zp => [0xB4, zp]
  | .ldyAbs w => [0xAC, loByte w, hiByte w]
  | .ldyAbx w => [0xBC, loByte w, hiByte w]
  | .staZp zp => [0x85, zp]
  | .staZpx zp => [0x95, zp]
  | .staAbs w => [0x8D, loByte w, hiByte w]
  | .staAbx w => [0x9D, loByte w, hiByte w]
  | .staAby w => [0x99, loByte w, hiByte w]
  | .staIzx zp => [0x81, zp]
  | .staIzy zp => [0x91, zp]
  | .stxZp zp => [0x86, zp]
  | .stxZpy zp => [0x96, zp]
  | .stxAbs w => [0x8E, loByte w, hiByte w]
  | .styZp zp => [0x84, zp]
  | .styZpx zp => [0x94, zp]
  | .styAbs w => [0x8C, loByte w, hiByte w]
  | .tax => [0xAA]
  | .tay => [0xA8]
  | .txa => [0x8A]
  | .tya => [0x98]
  | .tsx => [0xBA]
  | .txs => [0x9A]
  | .andImm v => [0x29, v]
  | .andZp zp => [0x25, zp]
  | .andZpx zp => [0x35, zp]
  | .andAbs w => [0x2D, loByte w, hiByte w]
  | .andAbx w => [0x3D, loByte w, hiByte w]
  | .andAby w => [0x39, loByte w, hiByte w]
  | .andIzx zp => [0x21, zp]
  | .andIzy zp => [0x31, zp]
  | .oraImm v => [0x09, v]
  | .oraZp zp => [0x05, zp]
  | .oraZpx zp => [0x15, zp]
  | .oraAbs w => [0x0D, loByte w, hiByte w]
  | .oraAbx w => [0x1D, loByte w, hiByte w]
  | .oraAby w => [0x19, loByte w, hiByte w]
  | .oraIzx zp => [0x01, zp]
  | .oraIzy zp => [0x11, zp]
  | .eorImm v => [0x49, v]
  | .eorZp zp => [0x45, zp]
  | .eorZpx zp => [0x55, zp]
  | .eorAbs w => [0x4D, loByte w, hiByte w]
  | .eorAbx w => [0x5D, loByte w, hiByte w]
  | .eorAby w => [0x59, loByte w, hiByte w]
  | .eorIzx zp => [0x41, zp]
  | .eorIzy zp => [0x51, zp]
  | .bitZp zp => [0x24, zp]
  | .bitAbs w => [0x2C, loByte w, hiByte w]
  | .adcImm v => [0x69, v]
  | .adcZp zp => [0x65, zp]
  | .adcZpx zp => [0x75, zp]
  | .adcAbs w => [0x6D, loByte w, hiByte w]
  | .adcAbx w => [0x7D, loByte w, hiByte w]
  | .adcAby w => [0x79, loByte w, hiByte w]
  | .adcIzx zp => [0x61, zp]
  | .adcIzy zp => [0x71, zp]
  | .sbcImm v => [0xE9, v]
  | .sbcZp zp => [0xE5, zp]
  | .sbcZpx zp => [0xF5, zp]
  | .sbcAbs w => [0xED, loByte w, hiByte w]
  | .sbcAbx w => [0xFD, loByte w, hiByte w]
  | .sbcAby w => [0xF9, loByte w, hiByte w]
  | .sbcIzx zp => [0xE1, zp]
  | .sbcIzy zp => [0xF1, zp]
  | .cmpImm v => [0xC9, v]
  | .cmpZp zp => [0xC5, zp]
  | .cmpZpx zp => [0xD5, zp]
  | .cmpAbs w => [0xCD, loByte w, hiByte w]
  | .cmpAbx w => [0xDD, loByte w, hiByte w]
  | .cmpAby w => [0xD9, loByte w, hiByte w]
  | .cmpIzx zp => [0xC1, zp]
  | .cmpIzy zp => [0xD1, zp]
  | .cpxImm v => [0xE0, v]
  | .cpxZp zp => [0xE4, zp]
  | .cpxAbs w => [0xEC, loByte w, hiByte w]
  | .cpyImm v => [0xC0, v]
  | .cpyZp zp => [0xC4, zp]
  | .cpyAbs w => [0xCC, loByte w, hiByte w]
  | .aslAcc => [0x0A]
  | .aslZp zp => [0x06, zp]
  | .aslZpx zp => [0x16, zp]
  | .aslAbs w => [0x0E, loByte w, hiByte w]
  | .aslAbx w => [0x1E, loByte w, hiByte w]
  | .lsrAcc => [0x4A]
  | .lsrZp zp => [0x46, zp]
  | .lsrZpx zp => [0x56, zp]
  | .lsrAbs w => [0x4E, loByte w, hiByte w]
  | .lsrAbx w => [0x5E, loByte w, hiByte w]
  | .rolAcc => [0x2A]
  | .rolZp zp => [0x26, zp]
  | .rolZpx zp => [0x36, zp]
  | .rolAbs w => [0x2E, loByte w, hiByte w]
  | .rolAbx w => [0x3E, loByte w, hiByte w]
  | .rorAcc => [0x6A]
  | .rorZp zp => [0x66, zp]
  | .rorZpx zp => [0x76, zp]
  | .rorAbs w => [0x6E, loByte w, hiByte w]
  | .rorAbx w => [0x7E, loByte w, hiByte w]
  | .incZp zp => [0xE6, zp]
  | .incZpx zp => [0xF6, zp]
  | .incAbs w => [0xEE, loByte w, hiByte w]
  | .incAbx w => [0xFE, loByte w, hiByte w]
  | .decZp zp => [0xC6, zp]
  | .decZpx zp => [0xD6, zp]
  | .decAbs w => [0xCE, loByte w, hiByte w]
  | .decAbx w => [0xDE, loByte w, hiByte w]
  | .inx => [0xE8]
  | .iny => [0xC8]
  | .dex => [0xCA]
  | .dey => [0x88]
  | .pha => [0x48]
  | .php => [0x08]
  | .pla => [0x68]
  | .plp => [0x28]
  | .clc => [0x18]
  | .sec => [0x38]
  | .cli => [0x58]
  | .sei => [0x78]
  | .cld => [0xD8]
  | .sed => [0xF8]
  | .clv => [0xB8]
  | .nop => [0xEA]
  | .bcc rel => [0x90, rel]
  | .bcs rel => [0xB0, rel]
  | .beq rel => [0xF0, rel]
  | .bne rel => [0xD0, rel]
  | .bmi rel => [0x30, rel]
  | .bpl rel => [0x10, rel]
  | .bvc rel => [0x50, rel]
  | .bvs rel => [0x70, rel]
  | .jmpAbs w => [0x4C, loByte w, hiByte w]
  | .jmpInd w => [0x6C, loByte w, hiByte w]
  | .jsr w => [0x20, loByte w, hiByte w]
  | .rts => [0x60]
  | .brk pad => [0x00, pad]
  | .rti => [0x40]

/-- Byte `k` of a number, byte 0 the least significant. -/
def numByte (w k : Nat) : Byte := BitVec.ofNat 8 (w / 256 ^ k)

/-- The bytes of an opcode-table word: bit 0 is the least significant bit of the first byte, the second byte is bits 15..8,
the third bits 23..16, and every bit from `nbits` up is 0. Three bytes, the longest instruction (R80). -/
def tableBytes (nbits w : Nat) : List Byte :=
  let v := w % 2 ^ nbits
  [numByte v 0, numByte v 1, numByte v 2]

/-- The instruction the decoder reads from an opcode-table word. -/
def decodeTableWord (nbits w : Nat) : Option Instr :=
  match decode (tableBytes nbits w) with
  | .instr i _ => some i
  | .reject _ => none

end Sys2Proof
end

