-- ==== Sys2Proof/Config.lean ====
section
/-! DEFINITION. The defaults of the construction parameters (00_scope.md R7 to R13) and the free values.

A free value has no body: nothing can evaluate it or prove a value of it. -/

namespace Sys2Proof.Config

/-- The size of the address space in bytes (R6). -/
def addressSpace : Nat := 65536

/-- MEM_SIZE has no default in the spec (R7, D24). DESIGN CHOICE (log 3), unsafe: the value the spec's test vectors use. -/
def resetMemSize : Nat := 65536

/-- R8. -/
def defaultStackPage : Byte := 1

/-- R9. -/
def defaultVecNmi : Word := 0xFFFA

/-- R9. -/
def defaultVecReset : Word := 0xFFFC

/-- R9. -/
def defaultVecIrq : Word := 0xFFFE

/-- R10. -/
def defaultDecodeStrict : Bool := false

/-- R12; decision D8 of the spec (log 2), unsafe for a program that relies on it (R286). -/
def defaultResetS : Byte := 0xFD

/-- R13: where Load puts a program image when the host names no address. -/
def defaultLoadOffset : Word := 0x0200

/-- The n-th unspecified byte (U2): the accumulator after a decimal ADC or SBC on operands that are not BCD, where
`cfg.decimalOpen` asks for free values (log 6, 7). -/
opaque freeByte : Nat → Byte

/-- The n-th unspecified flag value (U1, U2), where `cfg.decimalOpen` asks for free values (log 5, 6, 7). -/
opaque freeBit : Nat → Bool

end Sys2Proof.Config
end

