-- ==== Sys2Proof/Machine/State.lean ====
section
/-! DEFINITION. The state of the machine (10_state.md), the reasons a step can stop, and the state after reset. -/

namespace Sys2Proof.Machine

/-- The six stored flags of P (R24). Break and the reserved bit have no storage (R25, R26). -/
structure Flags where
  n : Bool
  v : Bool
  d : Bool
  i : Bool
  z : Bool
  c : Bool
  deriving DecidableEq, Repr

/-- The configuration registers of R36, which no instruction reaches, with the construction parameter RESET_S (R12). The
last field is the model's own. -/
structure HwConfig where
  /-- `mem_size`, 1..65536 (R7). -/
  memSize      : Nat
  /-- `stack_page` (R8). -/
  stackPage    : Byte
  /-- `vec_nmi` (R9). -/
  vecNmi       : Word
  /-- `vec_reset` (R9). -/
  vecReset     : Word
  /-- `vec_irq` (R9). -/
  vecIrq       : Word
  /-- `decode_strict` (R10). -/
  decodeStrict : Bool
  /-- `RESET_S` (R12). -/
  resetS       : Byte
  /-- The model's own (log 5): false gives the values that U1 and U2 call unspecified the spec's own choice (D11, D12), true
  makes them free values. -/
  decimalOpen  : Bool
  deriving DecidableEq, Repr

/-- The kinds of interrupt request (R37, R246). -/
inductive IrqKind where
  | irq | nmi | brk
  deriving DecidableEq, Repr

/-- A pending request: its kind and the vector address captured when it was made (R37, D19). -/
structure Request where
  kind   : IrqKind
  vector : Word
  deriving DecidableEq, Repr

/-- Memory: (address, byte) pairs, addresses strictly rising, no byte 0, which is what an unlisted address holds: the
array is zero-initialized (R40, R44). -/
abbrev Memory := List Host.Cell

/-- The canonical form of memory. -/
abbrev Memory.wf (m : Memory) : Prop :=
  m.Pairwise (fun c c' => c.1 < c'.1) ∧ ∀ c ∈ m, c.2 ≠ 0 ∧ c.1 < 65536

/-- Everything the spec gives the machine (10_state.md), and `draws`. -/
structure State where
  /-- `A` (R20). -/
  a      : Byte
  /-- `X` (R20). -/
  x      : Byte
  /-- `Y` (R20). -/
  y      : Byte
  /-- `S`, the stack pointer (R21). -/
  sp     : Byte
  /-- `pc`: between steps the address of the next opcode byte, during an instruction that of its own opcode byte (R22). -/
  pc     : Word
  /-- The stored flags of `P` (R24). -/
  p      : Flags
  /-- The configuration registers (R36). -/
  cfg    : HwConfig
  /-- `irq_req`, the one-entry request slot (R37). -/
  irqReq : Option Request
  /-- `halted` (R38). -/
  halted : Bool
  /-- `cyc` (R39). -/
  cyc    : Nat
  /-- `mem` (R40). -/
  mem    : Memory
  /-- The model's own (log 7): how many free values have been drawn. -/
  draws  : Nat
  deriving DecidableEq, Repr

/-- Why a step stops. Both are the spec's own outcomes, which R17 says to treat as faults. -/
inductive Fault where
  /-- The byte at `addr` is an illegal opcode (R241). Raised by `step` only; safe: the spec gives the step no effect on
  the architectural state (log 8). -/
  | decodeError (addr : Word) (byte : Byte)
  /-- The halted latch is set (R242). Raised by `step` only; safe: the step changes nothing. -/
  | halted
  deriving DecidableEq, Repr

/-- Why an instruction has no meaning. -/
inductive Refusal where
  /-- Raised by an arm of `exec` that has no meaning yet; safe. No arm of this model is left so. -/
  | notModelled (mnemonic : String)
  deriving DecidableEq, Repr

/-- What a meaning or a step answers. -/
abbrev Outcome := Host.Outcome State Fault Refusal

/-- The configuration registers at their defaults (R8 to R12), with the size of log 3. -/
def HwConfig.default : HwConfig where
  memSize      := Config.resetMemSize
  stackPage    := Config.defaultStackPage
  vecNmi       := Config.defaultVecNmi
  vecReset     := Config.defaultVecReset
  vecIrq       := Config.defaultVecIrq
  decodeStrict := Config.defaultDecodeStrict
  resetS       := Config.defaultResetS
  decimalOpen  := false

/-- The machine constructed with the defaults and then Reset, nothing loaded (R43, R44, R280): pc is the reset vector's
word, which is 0 in the zero memory, S is RESET_S, I is 1. A, X, Y and the five other flags have no value in the spec;
0 is a DESIGN CHOICE (log 1). -/
def State.reset : State where
  a      := 0
  x      := 0
  y      := 0
  sp     := Config.defaultResetS
  pc     := 0
  p      := ⟨false, false, false, true, false, false⟩
  cfg    := HwConfig.default
  irqReq := none
  halted := false
  cyc    := 0
  mem    := []
  draws  := 0

end Sys2Proof.Machine
end

