-- ==== Sys2Proof/Machine/Flags.lean ====
section
/-! DEFINITION. Every flag computation of the spec as a pure function: the byte view of P (R27, R28), `SetZN` (R29), binary
and BCD addition and subtraction (R150 to R155), compare (R156), BIT (R143), shifts and rotates (R171 to R174). -/

namespace Sys2Proof.Machine

/-- Bit k of a byte (R14). -/
def bit (v : Byte) (k : Nat) : Bool := v.getLsbD k

/-- `PByte(b)`: the flags as a byte with Break marker `b`; bit 5 is always 1 (R25, R27). -/
def Flags.toByte (p : Flags) (b : Bool) : Byte :=
  BitVec.ofNat 8 (p.n.toNat * 128 + p.v.toNat * 64 + 32 + b.toNat * 16
    + p.d.toNat * 8 + p.i.toNat * 4 + p.z.toNat * 2 + p.c.toNat)

/-- `PWrite(v)`: the flags from a byte; bits 5 and 4 are discarded (R28, D5). -/
def Flags.ofByte (v : Byte) : Flags where
  n := bit v 7
  v := bit v 6
  d := bit v 3
  i := bit v 2
  z := bit v 1
  c := bit v 0

/-- `SetZN(v)` (R29). -/
def Flags.withZN (p : Flags) (v : Byte) : Flags :=
  { p with z := v == 0, n := bit v 7 }

/-- What the ALU's binary functions return: `(r, c_out, v_out)`. -/
structure AluOut where
  r : Byte
  c : Bool
  v : Bool
  deriving DecidableEq, Repr

/-- `AdcBin` (R150): the 9-bit sum; overflow when the operands have one sign and the result the other. -/
def adcBin (a m : Byte) (c : Bool) : AluOut :=
  let sum := a.toNat + m.toNat + c.toNat
  let r := BitVec.ofNat 8 sum
  { r := r, c := decide (255 < sum), v := bit (~~~(a ^^^ m) &&& (a ^^^ r)) 7 }

/-- `SbcBin` (R153): the carry in is an inverted borrow, the carry out is the absence of a borrow. -/
def sbcBin (a m : Byte) (c : Bool) : AluOut :=
  let diff : Int := (a.toNat : Int) - m.toNat - (1 - (c.toNat : Int))
  let r := BitVec.ofInt 8 diff
  { r := r, c := decide (0 ≤ diff), v := bit ((a ^^^ m) &&& (a ^^^ r)) 7 }

/-- What the BCD functions return: `(r, c_out)`. -/
structure BcdOut where
  r : Byte
  c : Bool
  deriving DecidableEq, Repr

/-- `AdcDec` (R151): a digit above 9 is corrected by +6. -/
def adcDec (a m : Byte) (c : Bool) : BcdOut :=
  let lo := a.toNat % 16 + m.toNat % 16 + c.toNat
  let lo := if 9 < lo then lo + 6 else lo
  let hi := a.toNat / 16 + m.toNat / 16 + (if 15 < lo then 1 else 0)
  let hi := if 9 < hi then hi + 6 else hi
  { r := BitVec.ofNat 8 (hi % 16 * 16 + lo % 16), c := decide (15 < hi) }

/-- `SbcDec` (R154): a digit is corrected by -6 exactly when it borrowed (D13, C8). -/
def sbcDec (a m : Byte) (c : Bool) : BcdOut :=
  let lo : Int := ((a.toNat % 16 : Nat) : Int) - (m.toNat % 16 : Nat) - (1 - (c.toNat : Int))
  let bl : Int := if lo < 0 then 1 else 0
  let lo := if lo < 0 then lo - 6 else lo
  let hi : Int := ((a.toNat / 16 : Nat) : Int) - (m.toNat / 16 : Nat) - bl
  let cOut := decide (0 ≤ hi)
  let hi := if hi < 0 then hi - 6 else hi
  { r := BitVec.ofInt 8 (hi % 16 * 16 + lo % 16), c := cOut }

/-- Both nibbles are decimal digits: the operand is valid BCD (R151). -/
def validBcd (v : Byte) : Bool := decide (v.toNat % 16 ≤ 9) && decide (v.toNat / 16 ≤ 9)

/-- The accumulator and the four flags after ADC or SBC. -/
structure AccOut where
  r : Byte
  n : Bool
  v : Bool
  z : Bool
  c : Bool
  deriving DecidableEq, Repr

/-- Binary mode (R152, R155): everything from the binary result. -/
def accBinary (o : AluOut) : AccOut :=
  { r := o.r, n := bit o.r 7, v := o.v, z := o.r == 0, c := o.c }

/-- Decimal mode as the spec's own decisions have it (R152, R155, D11, D12): N and Z from the decimal result, V from the
binary formula. -/
def accDecimal (o : AluOut) (dec : BcdOut) : AccOut :=
  { r := dec.r, n := bit dec.r 7, v := o.v, z := dec.r == 0, c := dec.c }

/-- Decimal mode with what U1 and U2 call unspecified left free: N, Z, V always, A and C unless both operands are valid BCD
(log 5, 6). `k` numbers the free values. -/
def accDecimalOpen (valid : Bool) (dec : BcdOut) (k : Nat) : AccOut :=
  { r := if valid then dec.r else Config.freeByte k
    c := if valid then dec.c else Config.freeBit k
    n := Config.freeBit (k + 1)
    v := Config.freeBit (k + 2)
    z := Config.freeBit (k + 3) }

/-- The result of ADC (`bin` and `dec` from `adcBin`, `adcDec`) or SBC in the mode `P.D` selects (R33, R152, R155). -/
def accOut (decimal isOpen valid : Bool) (bin : AluOut) (dec : BcdOut) (k : Nat) : AccOut :=
  if decimal then
    if isOpen then accDecimalOpen valid dec k else accDecimal bin dec
  else accBinary bin

/-- `Compare(reg, m)`: C, Z, N and nothing else (R156). -/
def Flags.compare (p : Flags) (reg m : Byte) : Flags :=
  { p with c := decide (m.toNat ≤ reg.toNat), z := reg == m, n := bit (reg - m) 7 }

/-- The flags of BIT: Z from `A & m`, N and V from bits 7 and 6 of the operand (R143). -/
def Flags.bitTest (p : Flags) (a m : Byte) : Flags :=
  { p with z := (a &&& m) == 0, n := bit m 7, v := bit m 6 }

/-- The result of a shift or rotate and the bit shifted out. -/
structure ShiftOut where
  r : Byte
  c : Bool
  deriving DecidableEq, Repr

/-- R171. -/
def aslOut (v : Byte) : ShiftOut := { r := v <<< 1, c := bit v 7 }

/-- R172. -/
def lsrOut (v : Byte) : ShiftOut := { r := v >>> 1, c := bit v 0 }

/-- R173: the old carry enters at bit 0. -/
def rolOut (c : Bool) (v : Byte) : ShiftOut :=
  { r := (v <<< 1) ||| (BitVec.ofBool c).setWidth 8, c := bit v 7 }

/-- R174: the old carry enters at bit 7. -/
def rorOut (c : Bool) (v : Byte) : ShiftOut :=
  { r := (v >>> 1) ||| ((BitVec.ofBool c).setWidth 8 <<< 7), c := bit v 0 }

/-- The flags of a shift: C the bit shifted out, Z and N from the result (R171 to R174). -/
def Flags.shift (p : Flags) (o : ShiftOut) : Flags :=
  { p with c := o.c }.withZN o.r

end Sys2Proof.Machine
end

