-- ==== Sys2Proof/Machine/Ops.lean ====
section
/-! DEFINITION. The named operations over registers and memory: the register updates, memory access (20_memory.md R50 to
R54), the stack (R60 to R64), advancing pc (R23), requesting an interrupt (R248), entering one (R251) and returning (R223),
and Reset (R280). -/

namespace Sys2Proof.Machine

/-! Register updates, one per field that changes (R20 to R24, R37 to R40). -/

def State.setA (s : State) (v : Byte) : State := { s with a := v }
def State.setX (s : State) (v : Byte) : State := { s with x := v }
def State.setY (s : State) (v : Byte) : State := { s with y := v }
def State.setSp (s : State) (v : Byte) : State := { s with sp := v }
def State.setPc (s : State) (v : Word) : State := { s with pc := v }
def State.setP (s : State) (v : Flags) : State := { s with p := v }
def State.setCfg (s : State) (v : HwConfig) : State := { s with cfg := v }
def State.setIrqReq (s : State) (v : Option Request) : State := { s with irqReq := v }
def State.setHalted (s : State) (v : Bool) : State := { s with halted := v }
def State.setCyc (s : State) (v : Nat) : State := { s with cyc := v }
def State.setMem (s : State) (v : Memory) : State := { s with mem := v }
def State.setDraws (s : State) (v : Nat) : State := { s with draws := v }

/-- `SetZN(v)` on the state's flags (R29). -/
def State.withZN (s : State) (v : Byte) : State := s.setP (s.p.withZN v)

/-- `pc <- (pc + n) mod 65536` (R23, D6). -/
def State.advance (s : State) (n : Nat) : State := s.setPc (s.pc + BitVec.ofNat 16 n)

/-! The memory array (R40). -/

/-- What an address that is not listed holds: the array is zero-initialized (R40, R44). -/
def Memory.unlisted : Byte := 0

/-- The byte at an address of the array. -/
def Memory.get : Memory → Nat → Byte
  | [], _ => Memory.unlisted
  | c :: rest, a => if c.1 = a then c.2 else Memory.get rest a

/-- Every listed cell but those of `a`. -/
def Memory.remove (m : Memory) (a : Nat) : Memory := m.filter (fun c => c.1 != a)

/-- Put a cell at its place in the rising order of addresses. -/
def Memory.insert : Memory → Nat → Byte → Memory
  | [], a, v => [(a, v)]
  | c :: rest, a, v => if a < c.1 then (a, v) :: c :: rest else c :: Memory.insert rest a v

/-- Store a byte, keeping the canonical form: the byte an unlisted address holds is not listed. -/
def Memory.set (m : Memory) (a : Nat) (v : Byte) : Memory :=
  if v = Memory.unlisted then m.remove a else (m.remove a).insert a v

/-- The address is backed by memory (R51, R52). -/
def State.backed (s : State) (addr : Word) : Bool := decide (addr.toNat < s.cfg.memSize)

/-- `MemRead(addr, 1)`: an unbacked address reads as 0 (R51). -/
def State.memRead (s : State) (addr : Word) : Byte :=
  if s.backed addr then s.mem.get addr.toNat else 0

/-- `MemWrite(addr, 1, v)`: a write to an unbacked address is dropped (R52). -/
def State.memWrite (s : State) (addr : Word) (v : Byte) : State :=
  if s.backed addr then s.setMem (s.mem.set addr.toNat v) else s

/-- `MemRead(addr, 2)`: the flat little-endian word, the high byte at `addr + 1` modulo 65536, each byte bounds-checked
alone (R53, C1). -/
def State.memRead16 (s : State) (addr : Word) : Word :=
  leWord (s.memRead addr) (s.memRead (addr + 1))

/-- `MemWrite(addr, 2, v)` (R54). -/
def State.memWrite16 (s : State) (addr : Word) (v : Word) : State :=
  (s.memWrite addr (loByte v)).memWrite (addr + 1) (hiByte v)

/-! The stack (20_memory.md section 4). -/

/-- `StackAddr(s) = STACK_PAGE*256 + s` (R60). -/
def stackAddr (page off : Byte) : Word := leWord off page

/-- `Push8(v)`: write, then decrement S modulo 256 (R61). -/
def State.push8 (s : State) (v : Byte) : State :=
  (s.memWrite (stackAddr s.cfg.stackPage s.sp) v).setSp (s.sp - 1)

/-- The S that `Pop8` leaves: incremented modulo 256 (R62). -/
def State.popped8 (s : State) : State := s.setSp (s.sp + 1)

/-- The byte `Pop8` returns: read after the increment (R62). -/
def State.popByte (s : State) : Byte := s.memRead (stackAddr s.cfg.stackPage (s.sp + 1))

/-- `Push16(v)`: the high byte first (R63). -/
def State.push16 (s : State) (v : Word) : State := (s.push8 (hiByte v)).push8 (loByte v)

/-- The state after `Pop16` (R64). -/
def State.popped16 (s : State) : State := s.popped8.popped8

/-- The word `Pop16` returns: the low byte is popped first (R64). -/
def State.popWord (s : State) : Word := leWord s.popByte s.popped8.popByte

/-! Interrupt requests (60_exceptions.md section 3). -/

/-- The rank of a request kind (R248). -/
def IrqKind.rank : IrqKind → Nat
  | .irq => 1
  | .nmi => 2
  | .brk => 3

/-- The vector address register of a request kind (R248, R253). -/
def HwConfig.vector (c : HwConfig) : IrqKind → Word
  | .nmi => c.vecNmi
  | .irq => c.vecIrq
  | .brk => c.vecIrq

/-- `Request(kind)`: into an empty slot or over a request of lower rank; otherwise dropped (R248, D14). -/
def State.request (s : State) (k : IrqKind) : State :=
  match s.irqReq with
  | none => s.setIrqReq (some ⟨k, s.cfg.vector k⟩)
  | some r => if r.kind.rank < k.rank then s.setIrqReq (some ⟨k, s.cfg.vector k⟩) else s

/-- `Serviceable(req)`: NMI and BRK always, IRQ exactly when I is 0 (R249). -/
def serviceable (p : Flags) (r : Request) : Bool :=
  match r.kind with
  | .nmi => true
  | .brk => true
  | .irq => !p.i

/-- The request the next step will service, if any (R249, R250). -/
def State.due (s : State) : Option Request :=
  match s.irqReq with
  | none => none
  | some r => if serviceable s.p r then some r else none

/-- `Service()`, the one entry sequence of the machine (R251): push pc, push the flags with Break marker 1 only for BRK
(R252), set I, load pc from the request's vector, empty the slot, charge 7 cycles. The vector is read after the pushes. -/
def service (r : Request) (s : State) : State :=
  let s1 := (s.push16 s.pc).push8 (s.p.toByte (decide (r.kind = .brk)))
  let s2 := s1.setP { s1.p with i := true }
  ((s2.setPc (s2.memRead16 r.vector)).setIrqReq none).setCyc (s.cyc + 7)

/-- The return from an interrupt: `PWrite(Pop8()); pc <- Pop16()` (R223). -/
def returnInterrupt (s : State) : State :=
  let s1 := s.popped8.setP (Flags.ofByte s.popByte)
  s1.popped16.setPc s1.popWord

/-- `Reset()` (R280, R281): pc from the reset vector, S, I, the halted latch, and nothing else. -/
def State.resetOp (s : State) : State :=
  (((s.setPc (s.memRead16 s.cfg.vecReset)).setSp s.cfg.resetS).setP { s.p with i := true }).setHalted false

end Sys2Proof.Machine
end

