-- ==== Sys2Proof/Machine/Operands.lean ====
section
/-! DEFINITION. The addressing-mode resolver (40_addressing_modes.md). -/

namespace Sys2Proof.Machine

/-- The ten bus-resolving modes with their operand bytes (R81, R100). ACC, REL, IMP and PAD do not go through the
resolver (R111, R112, R113). -/
inductive Mode where
  | imm (v : Byte)
  | zp (b : Byte)
  | zpx (b : Byte)
  | zpy (b : Byte)
  | abs (w : Word)
  | abx (w : Word)
  | aby (w : Word)
  | ind (w : Word)
  | izx (b : Byte)
  | izy (b : Byte)
  deriving DecidableEq, Repr

/-- The length of an instruction in this mode (R80, R81). -/
def Mode.length : Mode → Nat
  | .imm _ | .zp _ | .zpx _ | .zpy _ | .izx _ | .izy _ => 2
  | .abs _ | .abx _ | .aby _ | .ind _ => 3

/-- `EA(mode)`, from the unadvanced pc, X, Y and the bus (R100 to R110). Sums with a zero-page operand wrap in page 0, the
others modulo 65536; pointers are read with the flat 16-bit read (C1). -/
def ea : Mode → State → Word
  | .imm _, s => s.pc + 1
  | .zp b, _ => zext16 b
  | .zpx b, s => zext16 (b + s.x)
  | .zpy b, s => zext16 (b + s.y)
  | .abs w, _ => w
  | .abx w, s => w + zext16 s.x
  | .aby w, s => w + zext16 s.y
  | .ind w, s => s.memRead16 w
  | .izx b, s => s.memRead16 (zext16 (b + s.x))
  | .izy b, s => s.memRead16 (zext16 b) + zext16 s.y

/-- `Operand(mode)` (R114): the byte at the effective address. For IMM that is the operand byte the decoder read at pc + 1
(R101), which the instruction carries (log 10). -/
def operand : Mode → State → Byte
  | .imm v, _ => v
  | m, s => s.memRead (ea m s)

end Sys2Proof.Machine
end

