-- ==== Sys2Proof/Machine/Arith.lean ====
section
/-! DEFINITION. ADC, SBC and the compares (43_arithmetic_compare.md). -/

namespace Sys2Proof.Machine

/-- Write the accumulator and N, V, Z, C; D and I stay (R152, R155). -/
def writeAcc (o : AccOut) (s : State) : State :=
  (s.setA o.r).setP { s.p with n := o.n, v := o.v, z := o.z, c := o.c }

/-- Count the four free values of a decimal ADC or SBC where `cfg.decimalOpen` asks for them (log 7). -/
def drawDecimal (s : State) : State :=
  if s.p.d && s.cfg.decimalOpen then s.setDraws (s.draws + 4) else s

/-- R152. -/
def adc (m : Mode) (s : State) : State :=
  let v := operand m s
  let o := accOut s.p.d s.cfg.decimalOpen (validBcd s.a && validBcd v) (adcBin s.a v s.p.c) (adcDec s.a v s.p.c) s.draws
  writeAcc o (drawDecimal s) |>.advance m.length

/-- R155. -/
def sbc (m : Mode) (s : State) : State :=
  let v := operand m s
  let o := accOut s.p.d s.cfg.decimalOpen (validBcd s.a && validBcd v) (sbcBin s.a v s.p.c) (sbcDec s.a v s.p.c) s.draws
  writeAcc o (drawDecimal s) |>.advance m.length

/-- R157. -/
def cmp (m : Mode) (s : State) : State := s.setP (s.p.compare s.a (operand m s)) |>.advance m.length

/-- R158. -/
def cpx (m : Mode) (s : State) : State := s.setP (s.p.compare s.x (operand m s)) |>.advance m.length

/-- R159. -/
def cpy (m : Mode) (s : State) : State := s.setP (s.p.compare s.y (operand m s)) |>.advance m.length

/-! ADC, R152. -/
def execAdcImm (v : Byte) (s : State) : Outcome := .next (adc (.imm v) s)
def execAdcZp (zp : Byte) (s : State) : Outcome := .next (adc (.zp zp) s)
def execAdcZpx (zp : Byte) (s : State) : Outcome := .next (adc (.zpx zp) s)
def execAdcAbs (w : Word) (s : State) : Outcome := .next (adc (.abs w) s)
def execAdcAbx (w : Word) (s : State) : Outcome := .next (adc (.abx w) s)
def execAdcAby (w : Word) (s : State) : Outcome := .next (adc (.aby w) s)
def execAdcIzx (zp : Byte) (s : State) : Outcome := .next (adc (.izx zp) s)
def execAdcIzy (zp : Byte) (s : State) : Outcome := .next (adc (.izy zp) s)

/-! SBC, R155. -/
def execSbcImm (v : Byte) (s : State) : Outcome := .next (sbc (.imm v) s)
def execSbcZp (zp : Byte) (s : State) : Outcome := .next (sbc (.zp zp) s)
def execSbcZpx (zp : Byte) (s : State) : Outcome := .next (sbc (.zpx zp) s)
def execSbcAbs (w : Word) (s : State) : Outcome := .next (sbc (.abs w) s)
def execSbcAbx (w : Word) (s : State) : Outcome := .next (sbc (.abx w) s)
def execSbcAby (w : Word) (s : State) : Outcome := .next (sbc (.aby w) s)
def execSbcIzx (zp : Byte) (s : State) : Outcome := .next (sbc (.izx zp) s)
def execSbcIzy (zp : Byte) (s : State) : Outcome := .next (sbc (.izy zp) s)

/-! CMP, R157. -/
def execCmpImm (v : Byte) (s : State) : Outcome := .next (cmp (.imm v) s)
def execCmpZp (zp : Byte) (s : State) : Outcome := .next (cmp (.zp zp) s)
def execCmpZpx (zp : Byte) (s : State) : Outcome := .next (cmp (.zpx zp) s)
def execCmpAbs (w : Word) (s : State) : Outcome := .next (cmp (.abs w) s)
def execCmpAbx (w : Word) (s : State) : Outcome := .next (cmp (.abx w) s)
def execCmpAby (w : Word) (s : State) : Outcome := .next (cmp (.aby w) s)
def execCmpIzx (zp : Byte) (s : State) : Outcome := .next (cmp (.izx zp) s)
def execCmpIzy (zp : Byte) (s : State) : Outcome := .next (cmp (.izy zp) s)

/-! CPX, R158. -/
def execCpxImm (v : Byte) (s : State) : Outcome := .next (cpx (.imm v) s)
def execCpxZp (zp : Byte) (s : State) : Outcome := .next (cpx (.zp zp) s)
def execCpxAbs (w : Word) (s : State) : Outcome := .next (cpx (.abs w) s)

/-! CPY, R159. -/
def execCpyImm (v : Byte) (s : State) : Outcome := .next (cpy (.imm v) s)
def execCpyZp (zp : Byte) (s : State) : Outcome := .next (cpy (.zp zp) s)
def execCpyAbs (w : Word) (s : State) : Outcome := .next (cpy (.abs w) s)

end Sys2Proof.Machine
end

