-- ==== Sys2Proof/Machine/Control.lean ====
section
/-! DEFINITION. Branches, jumps, subroutines, BRK and RTI (46_control_transfer.md). -/

namespace Sys2Proof.Machine

/-- `Branch(cond)`: the displacement is added to the address of the next instruction (R210, D17). -/
def branch (cond : Bool) (rel : Byte) (s : State) : State :=
  let next := s.pc + 2
  s.setPc (if cond then next + sext16 rel else next)

/-- R220: the target was read in full before anything is pushed (D23); the address of JSR's last byte is pushed. -/
def jumpSub (target : Word) (s : State) : State := (s.push16 (s.pc + 2)).setPc target

/-- R221. -/
def returnSub (s : State) : State := s.popped16.setPc (s.popWord + 1)

/-! BCC, R211. -/
def execBcc (rel : Byte) (s : State) : Outcome := .next (branch (!s.p.c) rel s)

/-! BCS, R212. -/
def execBcs (rel : Byte) (s : State) : Outcome := .next (branch s.p.c rel s)

/-! BEQ, R213. -/
def execBeq (rel : Byte) (s : State) : Outcome := .next (branch s.p.z rel s)

/-! BNE, R214. -/
def execBne (rel : Byte) (s : State) : Outcome := .next (branch (!s.p.z) rel s)

/-! BMI, R215. -/
def execBmi (rel : Byte) (s : State) : Outcome := .next (branch s.p.n rel s)

/-! BPL, R216. -/
def execBpl (rel : Byte) (s : State) : Outcome := .next (branch (!s.p.n) rel s)

/-! BVC, R217. -/
def execBvc (rel : Byte) (s : State) : Outcome := .next (branch (!s.p.v) rel s)

/-! BVS, R218. -/
def execBvs (rel : Byte) (s : State) : Outcome := .next (branch s.p.v rel s)

/-! JMP, R219. -/
def execJmpAbs (w : Word) (s : State) : Outcome := .next (s.setPc (ea (.abs w) s))
def execJmpInd (w : Word) (s : State) : Outcome := .next (s.setPc (ea (.ind w) s))

/-! JSR, R220. -/
def execJsr (w : Word) (s : State) : Outcome := .next (jumpSub (ea (.abs w) s) s)

/-! RTS, R221. -/
def execRts (s : State) : Outcome := .next (returnSub s)

/-! BRK, R222. -/
def execBrk (_pad : Byte) (s : State) : Outcome := .next (s.advance 2 |>.request .brk)

/-! RTI, R223. -/
def execRti (s : State) : Outcome := .next (returnInterrupt s)

end Sys2Proof.Machine
end

