-- ==== Sys2Proof/Machine/LoadStore.lean ====
section
/-! DEFINITION. Loads, stores and register transfers (41_load_store_transfer.md). -/

namespace Sys2Proof.Machine

/-- R120. -/
def lda (m : Mode) (s : State) : State :=
  s.setA (operand m s) |>.withZN (operand m s) |>.advance m.length

/-- R121. -/
def ldx (m : Mode) (s : State) : State :=
  s.setX (operand m s) |>.withZN (operand m s) |>.advance m.length

/-- R122. -/
def ldy (m : Mode) (s : State) : State :=
  s.setY (operand m s) |>.withZN (operand m s) |>.advance m.length

/-- R123. -/
def sta (m : Mode) (s : State) : State := s.memWrite (ea m s) s.a |>.advance m.length

/-- R124. -/
def stx (m : Mode) (s : State) : State := s.memWrite (ea m s) s.x |>.advance m.length

/-- R125. -/
def sty (m : Mode) (s : State) : State := s.memWrite (ea m s) s.y |>.advance m.length

/-! LDA, R120. -/
def execLdaImm (v : Byte) (s : State) : Outcome := .next (lda (.imm v) s)
def execLdaZp (zp : Byte) (s : State) : Outcome := .next (lda (.zp zp) s)
def execLdaZpx (zp : Byte) (s : State) : Outcome := .next (lda (.zpx zp) s)
def execLdaAbs (w : Word) (s : State) : Outcome := .next (lda (.abs w) s)
def execLdaAbx (w : Word) (s : State) : Outcome := .next (lda (.abx w) s)
def execLdaAby (w : Word) (s : State) : Outcome := .next (lda (.aby w) s)
def execLdaIzx (zp : Byte) (s : State) : Outcome := .next (lda (.izx zp) s)
def execLdaIzy (zp : Byte) (s : State) : Outcome := .next (lda (.izy zp) s)

/-! LDX, R121. -/
def execLdxImm (v : Byte) (s : State) : Outcome := .next (ldx (.imm v) s)
def execLdxZp (zp : Byte) (s : State) : Outcome := .next (ldx (.zp zp) s)
def execLdxZpy (zp : Byte) (s : State) : Outcome := .next (ldx (.zpy zp) s)
def execLdxAbs (w : Word) (s : State) : Outcome := .next (ldx (.abs w) s)
def execLdxAby (w : Word) (s : State) : Outcome := .next (ldx (.aby w) s)

/-! LDY, R122. -/
def execLdyImm (v : Byte) (s : State) : Outcome := .next (ldy (.imm v) s)
def execLdyZp (zp : Byte) (s : State) : Outcome := .next (ldy (.zp zp) s)
def execLdyZpx (zp : Byte) (s : State) : Outcome := .next (ldy (.zpx zp) s)
def execLdyAbs (w : Word) (s : State) : Outcome := .next (ldy (.abs w) s)
def execLdyAbx (w : Word) (s : State) : Outcome := .next (ldy (.abx w) s)

/-! STA, R123. -/
def execStaZp (zp : Byte) (s : State) : Outcome := .next (sta (.zp zp) s)
def execStaZpx (zp : Byte) (s : State) : Outcome := .next (sta (.zpx zp) s)
def execStaAbs (w : Word) (s : State) : Outcome := .next (sta (.abs w) s)
def execStaAbx (w : Word) (s : State) : Outcome := .next (sta (.abx w) s)
def execStaAby (w : Word) (s : State) : Outcome := .next (sta (.aby w) s)
def execStaIzx (zp : Byte) (s : State) : Outcome := .next (sta (.izx zp) s)
def execStaIzy (zp : Byte) (s : State) : Outcome := .next (sta (.izy zp) s)

/-! STX, R124. -/
def execStxZp (zp : Byte) (s : State) : Outcome := .next (stx (.zp zp) s)
def execStxZpy (zp : Byte) (s : State) : Outcome := .next (stx (.zpy zp) s)
def execStxAbs (w : Word) (s : State) : Outcome := .next (stx (.abs w) s)

/-! STY, R125. -/
def execStyZp (zp : Byte) (s : State) : Outcome := .next (sty (.zp zp) s)
def execStyZpx (zp : Byte) (s : State) : Outcome := .next (sty (.zpx zp) s)
def execStyAbs (w : Word) (s : State) : Outcome := .next (sty (.abs w) s)

/-! TAX, R126. -/
def execTax (s : State) : Outcome := .next (s.setX s.a |>.withZN s.a |>.advance 1)

/-! TAY, R127. -/
def execTay (s : State) : Outcome := .next (s.setY s.a |>.withZN s.a |>.advance 1)

/-! TXA, R128. -/
def execTxa (s : State) : Outcome := .next (s.setA s.x |>.withZN s.x |>.advance 1)

/-! TYA, R129. -/
def execTya (s : State) : Outcome := .next (s.setA s.y |>.withZN s.y |>.advance 1)

/-! TSX, R130. -/
def execTsx (s : State) : Outcome := .next (s.setX s.sp |>.withZN s.sp |>.advance 1)

/-! TXS, R131. -/
def execTxs (s : State) : Outcome := .next (s.setSp s.x |>.advance 1)

end Sys2Proof.Machine
end

