-- ==== Sys2Proof/Machine/Logic.lean ====
section
/-! DEFINITION. The logical instructions and BIT (42_logic_bit.md). -/

namespace Sys2Proof.Machine

/-- `A <- f A m; SetZN(A)` (R140 to R142). -/
def logicA (f : Byte → Byte → Byte) (m : Mode) (s : State) : State :=
  s.setA (f s.a (operand m s)) |>.withZN (f s.a (operand m s)) |>.advance m.length

/-- R143: only flags are written. -/
def bitTest (m : Mode) (s : State) : State :=
  s.setP (s.p.bitTest s.a (operand m s)) |>.advance m.length

/-! AND, R140. -/
def execAndImm (v : Byte) (s : State) : Outcome := .next (logicA (· &&& ·) (.imm v) s)
def execAndZp (zp : Byte) (s : State) : Outcome := .next (logicA (· &&& ·) (.zp zp) s)
def execAndZpx (zp : Byte) (s : State) : Outcome := .next (logicA (· &&& ·) (.zpx zp) s)
def execAndAbs (w : Word) (s : State) : Outcome := .next (logicA (· &&& ·) (.abs w) s)
def execAndAbx (w : Word) (s : State) : Outcome := .next (logicA (· &&& ·) (.abx w) s)
def execAndAby (w : Word) (s : State) : Outcome := .next (logicA (· &&& ·) (.aby w) s)
def execAndIzx (zp : Byte) (s : State) : Outcome := .next (logicA (· &&& ·) (.izx zp) s)
def execAndIzy (zp : Byte) (s : State) : Outcome := .next (logicA (· &&& ·) (.izy zp) s)

/-! ORA, R141. -/
def execOraImm (v : Byte) (s : State) : Outcome := .next (logicA (· ||| ·) (.imm v) s)
def execOraZp (zp : Byte) (s : State) : Outcome := .next (logicA (· ||| ·) (.zp zp) s)
def execOraZpx (zp : Byte) (s : State) : Outcome := .next (logicA (· ||| ·) (.zpx zp) s)
def execOraAbs (w : Word) (s : State) : Outcome := .next (logicA (· ||| ·) (.abs w) s)
def execOraAbx (w : Word) (s : State) : Outcome := .next (logicA (· ||| ·) (.abx w) s)
def execOraAby (w : Word) (s : State) : Outcome := .next (logicA (· ||| ·) (.aby w) s)
def execOraIzx (zp : Byte) (s : State) : Outcome := .next (logicA (· ||| ·) (.izx zp) s)
def execOraIzy (zp : Byte) (s : State) : Outcome := .next (logicA (· ||| ·) (.izy zp) s)

/-! EOR, R142. -/
def execEorImm (v : Byte) (s : State) : Outcome := .next (logicA (· ^^^ ·) (.imm v) s)
def execEorZp (zp : Byte) (s : State) : Outcome := .next (logicA (· ^^^ ·) (.zp zp) s)
def execEorZpx (zp : Byte) (s : State) : Outcome := .next (logicA (· ^^^ ·) (.zpx zp) s)
def execEorAbs (w : Word) (s : State) : Outcome := .next (logicA (· ^^^ ·) (.abs w) s)
def execEorAbx (w : Word) (s : State) : Outcome := .next (logicA (· ^^^ ·) (.abx w) s)
def execEorAby (w : Word) (s : State) : Outcome := .next (logicA (· ^^^ ·) (.aby w) s)
def execEorIzx (zp : Byte) (s : State) : Outcome := .next (logicA (· ^^^ ·) (.izx zp) s)
def execEorIzy (zp : Byte) (s : State) : Outcome := .next (logicA (· ^^^ ·) (.izy zp) s)

/-! BIT, R143. -/
def execBitZp (zp : Byte) (s : State) : Outcome := .next (bitTest (.zp zp) s)
def execBitAbs (w : Word) (s : State) : Outcome := .next (bitTest (.abs w) s)

end Sys2Proof.Machine
end

