-- ==== Sys2Proof/Machine/Shift.lean ====
section
/-! DEFINITION. Shifts, rotates, increments and decrements (44_shift_incdec.md). -/

namespace Sys2Proof.Machine

/-- A shift of a memory operand: the effective address is computed once, one read and one write (R170). -/
def shiftMem (f : Byte → ShiftOut) (m : Mode) (s : State) : State :=
  let o := f (s.memRead (ea m s))
  (s.memWrite (ea m s) o.r).setP (s.p.shift o) |>.advance m.length

/-- A shift of the accumulator: no memory is touched (R111, R170). -/
def shiftAcc (f : Byte → ShiftOut) (s : State) : State :=
  let o := f s.a
  (s.setA o.r).setP (s.p.shift o) |>.advance 1

/-- R171. -/
def asl (m : Mode) (s : State) : State := shiftMem aslOut m s
def aslAcc (s : State) : State := shiftAcc aslOut s

/-- R172. -/
def lsr (m : Mode) (s : State) : State := shiftMem lsrOut m s
def lsrAcc (s : State) : State := shiftAcc lsrOut s

/-- R173. -/
def rol (m : Mode) (s : State) : State := shiftMem (rolOut s.p.c) m s
def rolAcc (s : State) : State := shiftAcc (rolOut s.p.c) s

/-- R174. -/
def ror (m : Mode) (s : State) : State := shiftMem (rorOut s.p.c) m s
def rorAcc (s : State) : State := shiftAcc (rorOut s.p.c) s

/-- `r <- f v` on a memory operand with `SetZN(r)` (R170, R175, R176). -/
def modifyMem (f : Byte → Byte) (m : Mode) (s : State) : State :=
  let r := f (s.memRead (ea m s))
  (s.memWrite (ea m s) r).withZN r |>.advance m.length

/-- R175. -/
def incMem (m : Mode) (s : State) : State := modifyMem (· + 1) m s

/-- R176. -/
def decMem (m : Mode) (s : State) : State := modifyMem (· - 1) m s

/-! ASL, R171. -/
def execAslAcc (s : State) : Outcome := .next (aslAcc s)
def execAslZp (zp : Byte) (s : State) : Outcome := .next (asl (.zp zp) s)
def execAslZpx (zp : Byte) (s : State) : Outcome := .next (asl (.zpx zp) s)
def execAslAbs (w : Word) (s : State) : Outcome := .next (asl (.abs w) s)
def execAslAbx (w : Word) (s : State) : Outcome := .next (asl (.abx w) s)

/-! LSR, R172. -/
def execLsrAcc (s : State) : Outcome := .next (lsrAcc s)
def execLsrZp (zp : Byte) (s : State) : Outcome := .next (lsr (.zp zp) s)
def execLsrZpx (zp : Byte) (s : State) : Outcome := .next (lsr (.zpx zp) s)
def execLsrAbs (w : Word) (s : State) : Outcome := .next (lsr (.abs w) s)
def execLsrAbx (w : Word) (s : State) : Outcome := .next (lsr (.abx w) s)

/-! ROL, R173. -/
def execRolAcc (s : State) : Outcome := .next (rolAcc s)
def execRolZp (zp : Byte) (s : State) : Outcome := .next (rol (.zp zp) s)
def execRolZpx (zp : Byte) (s : State) : Outcome := .next (rol (.zpx zp) s)
def execRolAbs (w : Word) (s : State) : Outcome := .next (rol (.abs w) s)
def execRolAbx (w : Word) (s : State) : Outcome := .next (rol (.abx w) s)

/-! ROR, R174. -/
def execRorAcc (s : State) : Outcome := .next (rorAcc s)
def execRorZp (zp : Byte) (s : State) : Outcome := .next (ror (.zp zp) s)
def execRorZpx (zp : Byte) (s : State) : Outcome := .next (ror (.zpx zp) s)
def execRorAbs (w : Word) (s : State) : Outcome := .next (ror (.abs w) s)
def execRorAbx (w : Word) (s : State) : Outcome := .next (ror (.abx w) s)

/-! INC, R175. -/
def execIncZp (zp : Byte) (s : State) : Outcome := .next (incMem (.zp zp) s)
def execIncZpx (zp : Byte) (s : State) : Outcome := .next (incMem (.zpx zp) s)
def execIncAbs (w : Word) (s : State) : Outcome := .next (incMem (.abs w) s)
def execIncAbx (w : Word) (s : State) : Outcome := .next (incMem (.abx w) s)

/-! DEC, R176. -/
def execDecZp (zp : Byte) (s : State) : Outcome := .next (decMem (.zp zp) s)
def execDecZpx (zp : Byte) (s : State) : Outcome := .next (decMem (.zpx zp) s)
def execDecAbs (w : Word) (s : State) : Outcome := .next (decMem (.abs w) s)
def execDecAbx (w : Word) (s : State) : Outcome := .next (decMem (.abx w) s)

/-! INX, R177. -/
def execInx (s : State) : Outcome := .next (s.setX (s.x + 1) |>.withZN (s.x + 1) |>.advance 1)

/-! INY, R178. -/
def execIny (s : State) : Outcome := .next (s.setY (s.y + 1) |>.withZN (s.y + 1) |>.advance 1)

/-! DEX, R179. -/
def execDex (s : State) : Outcome := .next (s.setX (s.x - 1) |>.withZN (s.x - 1) |>.advance 1)

/-! DEY, R180. -/
def execDey (s : State) : Outcome := .next (s.setY (s.y - 1) |>.withZN (s.y - 1) |>.advance 1)

end Sys2Proof.Machine
end

