-- ==== Sys2Proof/Machine/Stack.lean ====
section
/-! DEFINITION. Stack instructions, flag instructions and NOP (45_stack_flag_nop.md). -/

namespace Sys2Proof.Machine

/-- R192: a pull into A is a load. -/
def pullA (s : State) : State := s.popped8.setA s.popByte |>.withZN s.popByte |>.advance 1

/-- R193. -/
def pullP (s : State) : State := s.popped8.setP (Flags.ofByte s.popByte) |>.advance 1

/-! PHA, R190. -/
def execPha (s : State) : Outcome := .next (s.push8 s.a |>.advance 1)

/-! PHP, R191. -/
def execPhp (s : State) : Outcome := .next (s.push8 (s.p.toByte true) |>.advance 1)

/-! PLA, R192. -/
def execPla (s : State) : Outcome := .next (pullA s)

/-! PLP, R193. -/
def execPlp (s : State) : Outcome := .next (pullP s)

/-! CLC, R194. -/
def execClc (s : State) : Outcome := .next (s.setP { s.p with c := false } |>.advance 1)

/-! SEC, R195. -/
def execSec (s : State) : Outcome := .next (s.setP { s.p with c := true } |>.advance 1)

/-! CLI, R196. -/
def execCli (s : State) : Outcome := .next (s.setP { s.p with i := false } |>.advance 1)

/-! SEI, R197. -/
def execSei (s : State) : Outcome := .next (s.setP { s.p with i := true } |>.advance 1)

/-! CLD, R198. -/
def execCld (s : State) : Outcome := .next (s.setP { s.p with d := false } |>.advance 1)

/-! SED, R199. -/
def execSed (s : State) : Outcome := .next (s.setP { s.p with d := true } |>.advance 1)

/-! CLV, R200. -/
def execClv (s : State) : Outcome := .next (s.setP { s.p with v := false } |>.advance 1)

/-! NOP, R201. -/
def execNop (s : State) : Outcome := .next (s.advance 1)

end Sys2Proof.Machine
end

