-- ==== Sys2Proof/Machine/Fetch.lean ====
section
/-! DEFINITION. What a dispatch step does first: the halted latch, the request slot, the fetch and the decoder, in that
order (60_exceptions.md R250, R255); and how a word of the opcode table is placed where the next step fetches. -/

namespace Sys2Proof.Machine

/-- The bytes at pc, pc + 1 and pc + 2 modulo 65536 (R80, D6), read from the array that stores write (R70). The decoder uses
as many of them as the opcode's format has (R83); the others are read without effect (R58, log 10). -/
def State.fetchBytes (s : State) : List Byte :=
  [s.memRead s.pc, s.memRead (s.pc + 1), s.memRead (s.pc + 2)]

/-- What a dispatch step is going to do (R250). -/
inductive Choice where
  | halted
  | service (r : Request)
  | illegal (addr : Word) (byte : Byte)
  | run (i : Instr)
  deriving DecidableEq, Repr

/-- The tests of R250 in their order: halted latch, serviceable request, opcode. -/
def State.choice (s : State) : Choice :=
  if s.halted then .halted
  else
    match s.due with
    | some r => .service r
    | none =>
      match decode s.fetchBytes with
      | .instr i _ => .run i
      | .reject _ => .illegal s.pc (s.memRead s.pc)

/-- The state after a decode error: unchanged, but for the halted latch in strict mode (R241, R242). -/
def State.afterDecodeError (s : State) : State :=
  if s.cfg.decodeStrict then s.setHalted true else s

/-- The three addresses the next step fetches from are backed. -/
def State.fetchBacked (s : State) : Bool :=
  s.backed s.pc && s.backed (s.pc + 1) && s.backed (s.pc + 2)

/-- Make the next step fetch: no halted latch, no serviceable request, and backed memory at pc. -/
def State.readyToFetch (s : State) : State :=
  let s := if s.fetchBacked then s else s.setCfg { s.cfg with memSize := Config.addressSpace }
  let s := if s.due.isSome then s.setIrqReq none else s
  s.setHalted false

/-- Store bytes at consecutive addresses, modulo 65536. -/
def State.writeBytes (s : State) (addr : Word) : List Byte → State
  | [] => s
  | b :: rest => (s.memWrite addr b).writeBytes (addr + 1) rest

/-- Place an opcode-table word where the next step fetches (log 4). -/
def State.placeWord (s : State) (nbits w : Nat) : State :=
  s.readyToFetch.writeBytes s.pc (tableBytes nbits w)

end Sys2Proof.Machine
end

