-- ==== Sys2Proof/Machine/Timing.lean ====
section
/-! DEFINITION. The cycle counter (70_reset_and_hazards.md R300 to R302). Informative: nothing else reads `cyc` (log 9). -/

namespace Sys2Proof.Machine

/-- The flag value an instruction branches on, for the eight branches; false for every other mnemonic (R211 to R218). -/
def branchTaken (m : Mnemonic) (p : Flags) : Bool :=
  match m with
  | .bcc => !p.c
  | .bcs => p.c
  | .beq => p.z
  | .bne => !p.z
  | .bmi => p.n
  | .bpl => !p.n
  | .bvc => !p.v
  | .bvs => p.v
  | _ => false

/-- The columns of R302 for the instructions that read an operand. -/
def readCycles : Format → Nat
  | .imm => 2
  | .zp => 3
  | .zpx | .zpy | .abs | .abx | .aby => 4
  | .izx => 6
  | .izy => 5
  | _ => 0

/-- The columns of R302 for the stores. -/
def storeCycles : Format → Nat
  | .zp => 3
  | .zpx | .zpy | .abs => 4
  | .abx | .aby => 5
  | .izx | .izy => 6
  | _ => 0

/-- The columns of R302 for the read-modify-write instructions. -/
def rmwCycles : Format → Nat
  | .acc => 2
  | .zp => 5
  | .zpx | .abs => 6
  | .abx => 7
  | _ => 0

/-- The base cost of an instruction (R302); BRK's own step costs 0 (R301, D16). -/
def baseCycles (m : Mnemonic) (f : Format) : Nat :=
  match m with
  | .lda | .and | .ora | .eor | .adc | .sbc | .cmp | .ldx | .ldy | .cpx | .cpy | .bit => readCycles f
  | .sta | .stx | .sty => storeCycles f
  | .asl | .lsr | .rol | .ror | .inc | .dec => rmwCycles f
  | .tax | .tay | .txa | .tya | .tsx | .txs | .inx | .iny | .dex | .dey => 2
  | .clc | .sec | .cli | .sei | .cld | .sed | .clv | .nop => 2
  | .pha | .php => 3
  | .pla | .plp => 4
  | .jsr | .rts | .rti => 6
  | .jmp => if f = .ind then 5 else 3
  | .bcc | .bcs | .beq | .bne | .bmi | .bpl | .bvc | .bvs => 2
  | .brk => 0

/-- The cost of one step of instruction `i` from state `s`: one more for a taken branch (R301). -/
def cycleCost (i : Instr) (s : State) : Nat :=
  baseCycles i.mnemonic i.format + (branchTaken i.mnemonic s.p).toNat

/-- Charge an instruction's cost to the state its handler left (R250). -/
def retire (i : Instr) (s : State) : Outcome → Outcome
  | .next t => .next (t.setCyc (t.cyc + cycleCost i s))
  | .fault r => .fault r
  | .refused r => .refused r

end Sys2Proof.Machine
end

