-- ==== Sys2Proof/Machine/Step.lean ====
section
/-! DEFINITION. The one action of the core, the dispatch step (60_exceptions.md R250). -/

namespace Sys2Proof.Machine

/-- One dispatch step: either one interrupt service or one instruction; a decode error and the halted latch are faults
(R17, R241, R242, log 8). What the halted latch becomes after a decode error is in `dispatch` (System.lean). -/
def step (s : State) : Host.Outcome State Fault Refusal :=
  match s.choice with
  | .halted => .fault .halted
  | .service r => .next (service r s)
  | .illegal addr byte => .fault (.decodeError addr byte)
  | .run i => retire i s (exec i s)

/-- The state with an opcode-table word placed so that `step` fetches and runs exactly it (log 4). -/
def State.withFetchWord (s : State) (nbits w : Nat) : State := s.placeWord nbits w

end Sys2Proof.Machine
end

