-- ==== Sys2Proof/Machine/HostOps.lean ====
section
/-! DEFINITION. The host interface (70_reset_and_hazards.md section 2): operations on the state that happen between two
dispatch steps, never during one (R67, R292). -/

namespace Sys2Proof.Machine

/-- The values the spec leaves unspecified at construction (R44, D10). A claim that quantifies over this argument relies on
none of them. -/
structure PowerOn where
  a  : Byte
  x  : Byte
  y  : Byte
  sp : Byte
  pc : Word
  p  : Flags
  deriving DecidableEq, Repr

/-- Construction (R282): a requested size of 0 is a configuration error and gives no core (R243), a size above 65536 is
clamped; the other parameters are taken from `c`. Memory is zero, the slot empty, `halted` and `cyc` 0 (R44). -/
def construct (requested : Nat) (c : HwConfig) (u : PowerOn) : Option State :=
  if requested = 0 then none
  else some
    { a := u.a, x := u.x, y := u.y, sp := u.sp, pc := u.pc, p := u.p
      cfg := { c with memSize := min requested Config.addressSpace }
      irqReq := none, halted := false, cyc := 0, mem := [], draws := 0 }

/-- Store an image byte by byte from `addr`, dropping what lies at or above MEM_SIZE (R283). -/
def State.loadBytes (s : State) (addr : Word) : List Byte → State
  | [] => s
  | b :: rest => (s.memWrite addr b).loadBytes (addr + 1) rest

/-- `Load`: at most `65536 - offset` bytes are copied, then Reset; memory is not cleared (R283, D21). -/
def State.load (s : State) (image : List Byte) (offset : Word := Config.defaultLoadOffset) : State :=
  (s.loadBytes offset (image.take (Config.addressSpace - offset.toNat))).resetOp

/-- `raise(nmi)` (R247). -/
def State.raise (s : State) (nmi : Bool) : State := s.request (if nmi then .nmi else .irq)

/-- The inspection of P: bit 5 is 1 and bit 4 is 0 (R289, D20). The other registers are read as the fields they are, memory
with `memRead` and `memRead16`. -/
def State.inspectP (s : State) : Byte := s.p.toByte false

/-- The six flags, for the host's setter of one flag bit (R290). -/
inductive FlagName where
  | n | v | d | i | z | c
  deriving DecidableEq, Repr

def Flags.put (p : Flags) (f : FlagName) (b : Bool) : Flags :=
  match f with
  | .n => { p with n := b }
  | .v => { p with v := b }
  | .d => { p with d := b }
  | .i => { p with i := b }
  | .z => { p with z := b }
  | .c => { p with c := b }

/-- The host's operations that change the state (R280 to R291). What a pop returns is `popByte` or `popWord`. -/
inductive HostOp where
  | reset
  | load (image : List Byte) (offset : Word)
  | raise (nmi : Bool)
  | poke (addr : Word) (v : Byte)
  | pokeWord (addr : Word) (v : Word)
  | push8 (v : Byte)
  | push16 (v : Word)
  | pop8
  | pop16
  | setA (v : Byte)
  | setX (v : Byte)
  | setY (v : Byte)
  | setS (v : Byte)
  | setPc (v : Word)
  | setP (v : Byte)
  | setFlag (f : FlagName) (b : Bool)
  | setStackPage (v : Byte)
  | setVecNmi (v : Word)
  | setVecReset (v : Word)
  | setVecIrq (v : Word)
  deriving DecidableEq, Repr

/-- What a host operation does to the state. -/
def HostOp.apply (op : HostOp) (s : State) : State :=
  match op with
  | .reset => s.resetOp
  | .load image offset => s.load image offset
  | .raise nmi => s.raise nmi
  | .poke addr v => s.memWrite addr v
  | .pokeWord addr v => s.memWrite16 addr v
  | .push8 v => s.push8 v
  | .push16 v => s.push16 v
  | .pop8 => s.popped8
  | .pop16 => s.popped16
  | .setA v => s.setA v
  | .setX v => s.setX v
  | .setY v => s.setY v
  | .setS v => s.setSp v
  | .setPc v => s.setPc v
  | .setP v => s.setP (Flags.ofByte v)
  | .setFlag f b => s.setP (s.p.put f b)
  | .setStackPage v => s.setCfg { s.cfg with stackPage := v }
  | .setVecNmi v => s.setCfg { s.cfg with vecNmi := v }
  | .setVecReset v => s.setCfg { s.cfg with vecReset := v }
  | .setVecIrq v => s.setCfg { s.cfg with vecIrq := v }

end Sys2Proof.Machine
end

