-- ==== Sys2Proof/Machine/System.lean ====
section
/-! DEFINITION. The core and its host together: a dispatch step with the report the spec gives it (00_scope.md R17), which
goes on after a decode error as the machine does, and the interleaving of steps and host operations (R5, R67). -/

namespace Sys2Proof.Machine

/-- What a dispatch step returns (R17). `stopped` is for a meaning that answers a fault or a refusal; none does. -/
inductive Report where
  | executed (m : Mnemonic)
  | serviced (k : IrqKind)
  | decodeError (addr : Word) (byte : Byte)
  | halted
  | stopped
  deriving DecidableEq, Repr

/-- A dispatch step as the host sees it: the state it leaves and what it returns (R250, R287). -/
def dispatch (s : State) : State × Report :=
  match s.choice with
  | .halted => (s, .halted)
  | .service r => (service r s, .serviced r.kind)
  | .illegal addr byte => (s.afterDecodeError, .decodeError addr byte)
  | .run i =>
    match retire i s (exec i s) with
    | .next t => (t, .executed i.mnemonic)
    | .fault _ => (s, .stopped)
    | .refused _ => (s, .stopped)

/-- One event of the whole system: a dispatch step or an operation of the host (R5). -/
inductive Event where
  | dispatch
  | host (op : HostOp)
  deriving DecidableEq, Repr

/-- The state an event leaves. -/
def systemStep (s : State) : Event → State
  | .dispatch => (dispatch s).1
  | .host op => op.apply s

/-- The state a sequence of events leaves, oldest first. -/
def systemRun (s : State) (es : List Event) : State := es.foldl systemStep s

end Sys2Proof.Machine
end

