-- ==== Sys2Proof/Safety.lean ====
section
/-! DEFINITION. What claims speak of: the invariant of the state, a quiet slot, the end of a run (70_reset_and_hazards.md
R299), and a run that does not stop. -/

namespace Sys2Proof.Machine

/-- The invariant: MEM_SIZE is legal (R7, R36), memory is in canonical form and lists backed addresses only (R40, R52), and
the halted latch is set only in strict mode (R38). -/
abbrev State.Inv (s : State) : Prop :=
  (1 ≤ s.cfg.memSize ∧ s.cfg.memSize ≤ 65536) ∧
  s.mem.wf ∧
  (∀ c ∈ s.mem, c.1 < s.cfg.memSize) ∧
  (s.halted = true → s.cfg.decodeStrict = true)

/-- The instruction, lying at `done`, jumps or takes a branch to `done` from state `s`: JMP in both its forms (R219) and the
eight branches (R299). -/
def closesAt (done : Word) (s : State) : Instr → Bool
  | .jmpAbs w => w == done
  | .jmpInd w => s.memRead16 w == done
  | .bcc rel => !s.p.c && (done + 2 + sext16 rel == done)
  | .bcs rel => s.p.c && (done + 2 + sext16 rel == done)
  | .beq rel => s.p.z && (done + 2 + sext16 rel == done)
  | .bne rel => !s.p.z && (done + 2 + sext16 rel == done)
  | .bmi rel => s.p.n && (done + 2 + sext16 rel == done)
  | .bpl rel => !s.p.n && (done + 2 + sext16 rel == done)
  | .bvc rel => !s.p.v && (done + 2 + sext16 rel == done)
  | .bvs rel => s.p.v && (done + 2 + sext16 rel == done)
  | _ => false

/-- The state is final for `done`: pc is there, nothing is serviceable, and the bytes there are a jump or a taken branch to
itself (R299). It says nothing of a host that acts afterwards. -/
def State.finalAt (s : State) (done : Word) : Bool :=
  s.pc == done &&
    match s.choice with
    | .run i => closesAt done s i
    | _ => false

/-- The next `n` steps, the host quiet, end without a decode error and without the halted latch. -/
def State.safeFor (s : State) : Nat → Bool
  | 0 => true
  | n + 1 =>
    match step s with
    | .next t => t.safeFor n
    | .fault _ => false
    | .refused _ => false

end Sys2Proof.Machine
end

