-- ==== Sys2Proof/Certificates/Slice0/Obligations.lean ====
section
/-! DEFINITION. The statements for the provers. The forms of each instruction are written out from 30_encoding.md R90: for
each addressing mode it has, its opcode byte and its constructor. -/

namespace Sys2Proof.Forms
open Sys2Proof.Machine

/-- The operand bytes of a mode, low byte first (R81, R82). -/
def bytes : Mode → List Byte
  | .imm v => [v]
  | .zp b | .zpx b | .zpy b | .izx b | .izy b => [b]
  | .abs w | .abx w | .aby w | .ind w => [BitVec.ofNat 8 w.toNat, BitVec.ofNat 8 (w.toNat / 256)]

/-- pc moved past an instruction of this mode: `(pc + len) mod 65536` (R23). -/
def after (m : Mode) (s : State) : Word := BitVec.ofNat 16 (s.pc.toNat + 1 + (bytes m).length)

/-- R120. -/
def ldaRows : Mode → Option (Byte × Instr)
  | .imm v => some (0xA9, .ldaImm v)
  | .zp b => some (0xA5, .ldaZp b)
  | .zpx b => some (0xB5, .ldaZpx b)
  | .abs w => some (0xAD, .ldaAbs w)
  | .abx w => some (0xBD, .ldaAbx w)
  | .aby w => some (0xB9, .ldaAby w)
  | .izx b => some (0xA1, .ldaIzx b)
  | .izy b => some (0xB1, .ldaIzy b)
  | _ => none

/-- R121. -/
def ldxRows : Mode → Option (Byte × Instr)
  | .imm v => some (0xA2, .ldxImm v)
  | .zp b => some (0xA6, .ldxZp b)
  | .zpy b => some (0xB6, .ldxZpy b)
  | .abs w => some (0xAE, .ldxAbs w)
  | .aby w => some (0xBE, .ldxAby w)
  | _ => none

/-- R122. -/
def ldyRows : Mode → Option (Byte × Instr)
  | .imm v => some (0xA0, .ldyImm v)
  | .zp b => some (0xA4, .ldyZp b)
  | .zpx b => some (0xB4, .ldyZpx b)
  | .abs w => some (0xAC, .ldyAbs w)
  | .abx w => some (0xBC, .ldyAbx w)
  | _ => none

/-- R123. -/
def staRows : Mode → Option (Byte × Instr)
  | .zp b => some (0x85, .staZp b)
  | .zpx b => some (0x95, .staZpx b)
  | .abs w => some (0x8D, .staAbs w)
  | .abx w => some (0x9D, .staAbx w)
  | .aby w => some (0x99, .staAby w)
  | .izx b => some (0x81, .staIzx b)
  | .izy b => some (0x91, .staIzy b)
  | _ => none

/-- R124. -/
def stxRows : Mode → Option (Byte × Instr)
  | .zp b => some (0x86, .stxZp b)
  | .zpy b => some (0x96, .stxZpy b)
  | .abs w => some (0x8E, .stxAbs w)
  | _ => none

/-- R125. -/
def styRows : Mode → Option (Byte × Instr)
  | .zp b => some (0x84, .styZp b)
  | .zpx b => some (0x94, .styZpx b)
  | .abs w => some (0x8C, .styAbs w)
  | _ => none

/-- R140. -/
def andRows : Mode → Option (Byte × Instr)
  | .imm v => some (0x29, .andImm v)
  | .zp b => some (0x25, .andZp b)
  | .zpx b => some (0x35, .andZpx b)
  | .abs w => some (0x2D, .andAbs w)
  | .abx w => some (0x3D, .andAbx w)
  | .aby w => some (0x39, .andAby w)
  | .izx b => some (0x21, .andIzx b)
  | .izy b => some (0x31, .andIzy b)
  | _ => none

/-- R141. -/
def oraRows : Mode → Option (Byte × Instr)
  | .imm v => some (0x09, .oraImm v)
  | .zp b => some (0x05, .oraZp b)
  | .zpx b => some (0x15, .oraZpx b)
  | .abs w => some (0x0D, .oraAbs w)
  | .abx w => some (0x1D, .oraAbx w)
  | .aby w => some (0x19, .oraAby w)
  | .izx b => some (0x01, .oraIzx b)
  | .izy b => some (0x11, .oraIzy b)
  | _ => none

/-- R142. -/
def eorRows : Mode → Option (Byte × Instr)
  | .imm v => some (0x49, .eorImm v)
  | .zp b => some (0x45, .eorZp b)
  | .zpx b => some (0x55, .eorZpx b)
  | .abs w => some (0x4D, .eorAbs w)
  | .abx w => some (0x5D, .eorAbx w)
  | .aby w => some (0x59, .eorAby w)
  | .izx b => some (0x41, .eorIzx b)
  | .izy b => some (0x51, .eorIzy b)
  | _ => none

/-- R143. -/
def bitRows : Mode → Option (Byte × Instr)
  | .zp b => some (0x24, .bitZp b)
  | .abs w => some (0x2C, .bitAbs w)
  | _ => none

/-- R152. -/
def adcRows : Mode → Option (Byte × Instr)
  | .imm v => some (0x69, .adcImm v)
  | .zp b => some (0x65, .adcZp b)
  | .zpx b => some (0x75, .adcZpx b)
  | .abs w => some (0x6D, .adcAbs w)
  | .abx w => some (0x7D, .adcAbx w)
  | .aby w => some (0x79, .adcAby w)
  | .izx b => some (0x61, .adcIzx b)
  | .izy b => some (0x71, .adcIzy b)
  | _ => none

/-- R155. -/
def sbcRows : Mode → Option (Byte × Instr)
  | .imm v => some (0xE9, .sbcImm v)
  | .zp b => some (0xE5, .sbcZp b)
  | .zpx b => some (0xF5, .sbcZpx b)
  | .abs w => some (0xED, .sbcAbs w)
  | .abx w => some (0xFD, .sbcAbx w)
  | .aby w => some (0xF9, .sbcAby w)
  | .izx b => some (0xE1, .sbcIzx b)
  | .izy b => some (0xF1, .sbcIzy b)
  | _ => none

/-- R157. -/
def cmpRows : Mode → Option (Byte × Instr)
  | .imm v => some (0xC9, .cmpImm v)
  | .zp b => some (0xC5, .cmpZp b)
  | .zpx b => some (0xD5, .cmpZpx b)
  | .abs w => some (0xCD, .cmpAbs w)
  | .abx w => some (0xDD, .cmpAbx w)
  | .aby w => some (0xD9, .cmpAby w)
  | .izx b => some (0xC1, .cmpIzx b)
  | .izy b => some (0xD1, .cmpIzy b)
  | _ => none

/-- R158. -/
def cpxRows : Mode → Option (Byte × Instr)
  | .imm v => some (0xE0, .cpxImm v)
  | .zp b => some (0xE4, .cpxZp b)
  | .abs w => some (0xEC, .cpxAbs w)
  | _ => none

/-- R159. -/
def cpyRows : Mode → Option (Byte × Instr)
  | .imm v => some (0xC0, .cpyImm v)
  | .zp b => some (0xC4, .cpyZp b)
  | .abs w => some (0xCC, .cpyAbs w)
  | _ => none

/-- R171. -/
def aslRows : Mode → Option (Byte × Instr)
  | .zp b => some (0x06, .aslZp b)
  | .zpx b => some (0x16, .aslZpx b)
  | .abs w => some (0x0E, .aslAbs w)
  | .abx w => some (0x1E, .aslAbx w)
  | _ => none

/-- R172. -/
def lsrRows : Mode → Option (Byte × Instr)
  | .zp b => some (0x46, .lsrZp b)
  | .zpx b => some (0x56, .lsrZpx b)
  | .abs w => some (0x4E, .lsrAbs w)
  | .abx w => some (0x5E, .lsrAbx w)
  | _ => none

/-- R173. -/
def rolRows : Mode → Option (Byte × Instr)
  | .zp b => some (0x26, .rolZp b)
  | .zpx b => some (0x36, .rolZpx b)
  | .abs w => some (0x2E, .rolAbs w)
  | .abx w => some (0x3E, .rolAbx w)
  | _ => none

/-- R174. -/
def rorRows : Mode → Option (Byte × Instr)
  | .zp b => some (0x66, .rorZp b)
  | .zpx b => some (0x76, .rorZpx b)
  | .abs w => some (0x6E, .rorAbs w)
  | .abx w => some (0x7E, .rorAbx w)
  | _ => none

/-- R175. -/
def incRows : Mode → Option (Byte × Instr)
  | .zp b => some (0xE6, .incZp b)
  | .zpx b => some (0xF6, .incZpx b)
  | .abs w => some (0xEE, .incAbs w)
  | .abx w => some (0xFE, .incAbx w)
  | _ => none

/-- R176. -/
def decRows : Mode → Option (Byte × Instr)
  | .zp b => some (0xC6, .decZp b)
  | .zpx b => some (0xD6, .decZpx b)
  | .abs w => some (0xCE, .decAbs w)
  | .abx w => some (0xDE, .decAbx w)
  | _ => none

/-- One load: register `put`, Z and N from the operand (R120 to R122). -/
def Loads (rows : Mode → Option (Byte × Instr)) (put : State → Byte → State) : Prop :=
  ∀ (m : Mode) (op : Byte) (i : Instr) (s : State), rows m = some (op, i) →
    encode i = op :: bytes m ∧
    exec i s = .next { put s (operand m s) with
      p := { s.p with z := decide (operand m s = 0), n := (operand m s).getLsbD 7 }
      pc := after m s }

/-- One store: the byte goes to `ea m s` and nothing else is written but pc (R123 to R125). -/
def Stores (rows : Mode → Option (Byte × Instr)) (reg : State → Byte) : Prop :=
  ∀ (m : Mode) (op : Byte) (i : Instr) (s : State), rows m = some (op, i) →
    encode i = op :: bytes m ∧
    exec i s = .next { s.memWrite (ea m s) (reg s) with pc := after m s }

/-- One logical instruction on A, the result given bit by bit (R140 to R142). -/
def Logical (rows : Mode → Option (Byte × Instr)) (f : Bool → Bool → Bool) : Prop :=
  ∀ (m : Mode) (op : Byte) (i : Instr) (s : State), rows m = some (op, i) →
    encode i = op :: bytes m ∧
    ∃ r : Byte, (∀ k, k < 8 → r.getLsbD k = f (s.a.getLsbD k) ((operand m s).getLsbD k)) ∧
      exec i s = .next { s with
        a := r
        p := { s.p with z := decide (r = 0), n := r.getLsbD 7 }
        pc := after m s }

/-- One compare of `reg` (R156 to R159). -/
def Compares (rows : Mode → Option (Byte × Instr)) (reg : State → Byte) : Prop :=
  ∀ (m : Mode) (op : Byte) (i : Instr) (s : State), rows m = some (op, i) →
    encode i = op :: bytes m ∧
    exec i s = .next { s with
      p := { s.p with
        c := decide ((operand m s).toNat ≤ (reg s).toNat)
        z := decide (reg s = operand m s)
        n := decide (128 ≤ ((reg s).toNat + 256 - (operand m s).toNat) % 256) }
      pc := after m s }

/-- One shift: in memory, one read and one write at `ea m s`; in accumulator format, A (R170 to R174). `r` gives the result
from the old carry and the old value, `out` is the bit shifted out. -/
def Shifts (rows : Mode → Option (Byte × Instr)) (accOp : Byte) (acc : Instr) (r : Nat → Nat → Nat) (out : Nat) : Prop :=
  (∀ (m : Mode) (op : Byte) (i : Instr) (s : State), rows m = some (op, i) →
    encode i = op :: bytes m ∧
    let v := s.memRead (ea m s)
    let w : Byte := BitVec.ofNat 8 (r s.p.c.toNat v.toNat)
    exec i s = .next { s.memWrite (ea m s) w with
      p := { s.p with c := v.getLsbD out, z := decide (w = 0), n := w.getLsbD 7 }
      pc := after m s }) ∧
  (∀ s : State,
    encode acc = [accOp] ∧
    let w : Byte := BitVec.ofNat 8 (r s.p.c.toNat s.a.toNat)
    exec acc s = .next { s with
      a := w
      p := { s.p with c := s.a.getLsbD out, z := decide (w = 0), n := w.getLsbD 7 }
      pc := s.pc + 1 })

/-- INC or DEC of memory: `(v + k) mod 256` (R175, R176). -/
def Modifies (rows : Mode → Option (Byte × Instr)) (k : Nat) : Prop :=
  ∀ (m : Mode) (op : Byte) (i : Instr) (s : State), rows m = some (op, i) →
    encode i = op :: bytes m ∧
    let w : Byte := BitVec.ofNat 8 ((s.memRead (ea m s)).toNat + k)
    exec i s = .next { s.memWrite (ea m s) w with
      p := { s.p with z := decide (w = 0), n := w.getLsbD 7 }
      pc := after m s }

/-- A one-byte instruction that puts `v s` in a register with `SetZN` (transfers, INX and the like). -/
def PutsZN (op : Byte) (i : Instr) (put : State → Byte → State) (v : State → Byte) : Prop :=
  ∀ s : State, encode i = [op] ∧
    exec i s = .next { put s (v s) with
      p := { s.p with z := decide (v s = 0), n := (v s).getLsbD 7 }
      pc := s.pc + 1 }

/-- A one-byte instruction that changes the flags to `f s.p` and nothing else (R194 to R201). -/
def SetsFlags (op : Byte) (i : Instr) (f : Flags → Flags) : Prop :=
  ∀ s : State, encode i = [op] ∧ exec i s = .next { s with p := f s.p, pc := s.pc + 1 }

/-- One conditional branch (R210 to R218): the displacement is signed and added to pc + 2 modulo 65536. -/
def Branches (op : Byte) (mk : Byte → Instr) (cond : Flags → Bool) : Prop :=
  ∀ (rel : Byte) (s : State), encode (mk rel) = [op, rel] ∧
    exec (mk rel) s = .next { s with
      pc := if cond s.p then BitVec.ofInt 16 ((s.pc.toNat : Int) + 2 + rel.toInt) else s.pc + 2 }

/-- The binary value of two packed decimal digits (R151). -/
def dec (v : Byte) : Nat := v.toNat / 16 * 10 + v.toNat % 16

/-- Both nibbles are digits (R151). -/
def isBcd (v : Byte) : Prop := v.toNat / 16 ≤ 9 ∧ v.toNat % 16 ≤ 9

/-- The packed form of a number below 100. -/
def bcd (n : Nat) : Byte := BitVec.ofNat 8 (n / 10 * 16 + n % 10)

/-- The numbers of R151: the two digit sums, each corrected by +6 when it exceeds 9, the low one carrying into the high one. -/
def decimalSum (a m c : Nat) : Nat × Bool :=
  let lo := a % 16 + m % 16 + c
  let lo := if lo ≤ 9 then lo else lo + 6
  let hi := a / 16 + m / 16 + (if 16 ≤ lo then 1 else 0)
  let hi := if hi ≤ 9 then hi else hi + 6
  (hi % 16 * 16 + lo % 16, decide (16 ≤ hi))

/-- The numbers of R154: the two digit differences, each corrected by -6 when it is negative, the low one borrowing from the
high one. -/
def decimalDifference (a m c : Int) : Int × Bool :=
  let lo := a % 16 - m % 16 - (1 - c)
  let hi := a / 16 - m / 16 - (if lo < 0 then 1 else 0)
  let lo := if lo < 0 then lo - 6 else lo
  ((if hi < 0 then hi - 6 else hi) % 16 * 16 + lo % 16, decide (0 ≤ hi))

/-- No request is in the slot that the next step would service (R249). -/
def NothingDue (s : State) : Prop :=
  s.irqReq = none ∨ ∃ r, s.irqReq = some r ∧ r.kind = .irq ∧ s.p.i = true

/-- The instruction at pc jumps or takes a branch to itself: JMP to pc, JMP through a pointer that holds pc, or a branch by -2
whose flag has the tested value (R210 to R219, R299). -/
def JumpsToItself (i : Instr) (s : State) : Prop :=
  match i with
  | .jmpAbs w => w = s.pc
  | .jmpInd w => s.memRead16 w = s.pc
  | .bcc rel => rel = 0xFE ∧ s.p.c = false
  | .bcs rel => rel = 0xFE ∧ s.p.c = true
  | .beq rel => rel = 0xFE ∧ s.p.z = true
  | .bne rel => rel = 0xFE ∧ s.p.z = false
  | .bmi rel => rel = 0xFE ∧ s.p.n = true
  | .bpl rel => rel = 0xFE ∧ s.p.n = false
  | .bvc rel => rel = 0xFE ∧ s.p.v = false
  | .bvs rel => rel = 0xFE ∧ s.p.v = true
  | _ => False

/-- The three bytes a fetch reads (R80). -/
def fetched (s : State) : List Byte := [s.memRead s.pc, s.memRead (s.pc + 1), s.memRead (s.pc + 2)]

/-- The addresses an instruction stores to: the effective address of a store or a read-modify-write, and the stack
addresses of a push (R123 to R125, R170, R61, R63). -/
def storedTo (i : Instr) (s : State) : List Word :=
  match i with
  | .staZp b => [ea (.zp b) s]
  | .staZpx b => [ea (.zpx b) s]
  | .staAbs w => [ea (.abs w) s]
  | .staAbx w => [ea (.abx w) s]
  | .staAby w => [ea (.aby w) s]
  | .staIzx b => [ea (.izx b) s]
  | .staIzy b => [ea (.izy b) s]
  | .stxZp b => [ea (.zp b) s]
  | .stxZpy b => [ea (.zpy b) s]
  | .stxAbs w => [ea (.abs w) s]
  | .styZp b => [ea (.zp b) s]
  | .styZpx b => [ea (.zpx b) s]
  | .styAbs w => [ea (.abs w) s]
  | .aslZp b | .lsrZp b | .rolZp b | .rorZp b | .incZp b | .decZp b => [ea (.zp b) s]
  | .aslZpx b | .lsrZpx b | .rolZpx b | .rorZpx b | .incZpx b | .decZpx b => [ea (.zpx b) s]
  | .aslAbs w | .lsrAbs w | .rolAbs w | .rorAbs w | .incAbs w | .decAbs w => [ea (.abs w) s]
  | .aslAbx w | .lsrAbx w | .rolAbx w | .rorAbx w | .incAbx w | .decAbx w => [ea (.abx w) s]
  | .pha | .php => [stackAddr s.cfg.stackPage s.sp]
  | .jsr _ => [stackAddr s.cfg.stackPage s.sp, stackAddr s.cfg.stackPage (s.sp - 1)]
  | _ => []

/-- The mnemonics that write A outside accumulator format (R42). -/
def writesA : List Mnemonic := [.lda, .pla, .txa, .tya, .and, .ora, .eor, .adc, .sbc]
/-- R42. -/
def writesX : List Mnemonic := [.ldx, .tax, .tsx, .inx, .dex]
/-- R42. -/
def writesY : List Mnemonic := [.ldy, .tay, .iny, .dey]
/-- R42. -/
def writesS : List Mnemonic := [.txs, .pha, .php, .pla, .plp, .jsr, .rts, .rti]
/-- R30. -/
def writesC : List Mnemonic :=
  [.adc, .sbc, .cmp, .cpx, .cpy, .asl, .rol, .lsr, .ror, .clc, .sec, .plp, .rti]
/-- R31; R35 names the same instructions for N. -/
def writesZN : List Mnemonic :=
  [.lda, .ldx, .ldy, .tax, .tay, .txa, .tya, .tsx, .pla, .and, .ora, .eor, .adc, .sbc, .inc, .dec,
   .inx, .iny, .dex, .dey, .asl, .lsr, .rol, .ror, .cmp, .cpx, .cpy, .bit, .plp, .rti]
/-- R32. -/
def writesI : List Mnemonic := [.sei, .cli, .plp, .rti]
/-- R33. -/
def writesD : List Mnemonic := [.sed, .cld, .plp, .rti]
/-- R34. -/
def writesV : List Mnemonic := [.adc, .sbc, .bit, .clv, .plp, .rti]

end Sys2Proof.Forms

open Sys2Proof Sys2Proof.Machine

/-! ## Encoding -/

/-- R84, R88: words written out from the matrix and the syntax table decode to the instructions they stand for. -/
def Obligations.SampleWordsDecode : Prop :=
  decode [0xA9, 0x05] = .instr (.ldaImm 0x05) [] ∧
  decode [0x38, 0x69, 0x01] = .instr .sec [0x69, 0x01] ∧
  decode [0xBD, 0x34, 0x12] = .instr (.ldaAbx 0x1234) [] ∧
  decode [0x96, 0xFF] = .instr (.stxZpy 0xFF) [] ∧
  decode [0x2C, 0x34, 0x12] = .instr (.bitAbs 0x1234) [] ∧
  decode [0x71, 0x20] = .instr (.adcIzy 0x20) [] ∧
  decode [0xE1, 0x10] = .instr (.sbcIzx 0x10) [] ∧
  decode [0x7E, 0x00, 0x30] = .instr (.rorAbx 0x3000) [] ∧
  decode [0x28] = .instr .plp [] ∧
  decode [0x70, 0xFE] = .instr (.bvs 0xFE) [] ∧
  decode [0x6C, 0xFF, 0x02] = .instr (.jmpInd 0x02FF) [] ∧
  decode [0x00, 0xAB] = .instr (.brk 0xAB) []

/-- Decoding the bytes of an instruction, whatever follows them, gives the instruction back: for every instruction and every
value of its operand (every instruction is well formed, R86). -/
def Obligations.DecodeOfEncodeIsTheInstruction : Prop :=
  ∀ (i : Instr) (rest : List Byte), decode (encode i ++ rest) = .instr i rest

/-- The other direction: whatever bytes decode to an instruction are its encoding and the rest, so no bit is dropped. -/
def Obligations.DecodedBytesAreTheEncoding : Prop :=
  ∀ (bs : List Byte) (i : Instr) (rest : List Byte), decode bs = .instr i rest → bs = encode i ++ rest

/-- R84, R85: the 105 bytes of R85, and no others, are rejected by name; every other byte starts an instruction.
Which 151 bytes are legal is the spec's own decision D1 (log 11). -/
def Obligations.IllegalBytesAreExactlyTheListed : Prop :=
  illegalOpcodes.length = 105 ∧ illegalOpcodes.Nodup ∧
  ∀ (op b1 b2 : Byte) (rest : List Byte),
    (op ∈ illegalOpcodes → decode (op :: b1 :: b2 :: rest) = .reject (.illegalOpcode op)) ∧
    (op ∉ illegalOpcodes → ∃ i rest', decode (op :: b1 :: b2 :: rest) = .instr i rest')

/-- R83: the opcode byte alone determines mnemonic, format and so the length. -/
def Obligations.OpcodeAloneFixesFormatAndLength : Prop :=
  ∀ (i j : Instr) (op : Byte) (xs ys : List Byte), encode i = op :: xs → encode j = op :: ys →
    i.mnemonic = j.mnemonic ∧ i.format = j.format ∧ xs.length = i.format.operandBytes ∧ ys.length = xs.length

/-! ## The dispatch step -/

/-- R250: with no halted latch and nothing serviceable, a step is `exec` of the instruction decoded from the bytes at pc,
with its cycles charged to `cyc` and nothing else added. -/
def Obligations.StepRunsTheDecodedInstruction : Prop :=
  ∀ (s t : State) (i : Instr) (rest : List Byte),
    s.halted = false → Forms.NothingDue s → decode (Forms.fetched s) = .instr i rest → exec i s = .next t →
    step s = .next { t with cyc := t.cyc + cycleCost i s } ∧
    dispatch s = ({ t with cyc := t.cyc + cycleCost i s }, .executed i.mnemonic)

/-- R249, R250: a pending NMI or BRK, and a pending IRQ while I is 0, is entered by the next step instead of an instruction,
whatever lies at pc. -/
def Obligations.ServiceableRequestIsEntered : Prop :=
  ∀ (s : State) (r : Request), s.halted = false → s.irqReq = some r →
    (r.kind = .nmi ∨ r.kind = .brk ∨ (r.kind = .irq ∧ s.p.i = false)) →
    step s = .next (service r s) ∧ dispatch s = (service r s, .serviced r.kind)

/-- R241: with nothing serviceable, an illegal byte at pc stops the step with its address and value; the state that stays is
unchanged but for the halted latch in strict mode. The latch and the uncharged cycles are the spec's decisions D15 and D22
(log 18). -/
def Obligations.IllegalByteIsADecodeError : Prop :=
  ∀ s : State, s.halted = false → Forms.NothingDue s → s.memRead s.pc ∈ illegalOpcodes →
    step s = .fault (.decodeError s.pc (s.memRead s.pc)) ∧
    dispatch s = ({ s with halted := s.cfg.decodeStrict }, .decodeError s.pc (s.memRead s.pc))

/-- R242: while halted a step changes nothing, pending requests included, and only a Reset (alone or at the end of a Load)
clears the latch. The latch is the spec's decision D15 (log 18). -/
def Obligations.HaltedUntilReset : Prop :=
  (∀ s : State, s.halted = true → step s = .fault .halted ∧ dispatch s = (s, .halted)) ∧
  (∀ (s : State) (op : HostOp), s.halted = true →
    ((op.apply s).halted = false ↔ (op = .reset ∨ ∃ image offset, op = .load image offset)))

/-- R82, R101: what is decoded at pc are the bytes in memory there; the operand of an immediate instruction is the byte at
its effective address pc + 1. -/
def Obligations.FetchedOperandIsTheByteAtItsAddress : Prop :=
  ∀ (s : State) (i : Instr) (rest : List Byte), decode (Forms.fetched s) = .instr i rest →
    (∃ xs, Forms.fetched s = encode i ++ xs) ∧
    (∀ op v, encode i = [op, v] → s.memRead (ea (.imm v) s) = v) ∧
    (∀ op lo hi, encode i = [op, lo, hi] → s.memRead16 (s.pc + 1) = leWord lo hi)

/-! ## Flags as a byte -/

/-- R27, R28: the byte view of P by bit weights, and the six flags from a byte; reading back a pushed byte restores the
flags whatever the Break marker; the host's inspection shows the marker as 0 (R289). The bit places, the two ignored bits
and the inspection are the spec's decisions D2, D5 and D20 (log 12). -/
def Obligations.FlagByteByBits : Prop :=
  ∀ (p : Flags) (b : Bool) (v : Byte) (s : State),
    (p.toByte b).toNat = p.n.toNat * 128 + p.v.toNat * 64 + 32 + b.toNat * 16 + p.d.toNat * 8 + p.i.toNat * 4
      + p.z.toNat * 2 + p.c.toNat ∧
    Flags.ofByte v = ⟨v.getLsbD 7, v.getLsbD 6, v.getLsbD 3, v.getLsbD 2, v.getLsbD 1, v.getLsbD 0⟩ ∧
    Flags.ofByte (p.toByte b) = p ∧
    s.inspectP.toNat = s.p.n.toNat * 128 + s.p.v.toNat * 64 + 32 + s.p.d.toNat * 8 + s.p.i.toNat * 4 + s.p.z.toNat * 2
      + s.p.c.toNat

/-- R29: Z and N are both written, from the value, and nothing else. -/
def Obligations.SetZNWritesBothFlags : Prop :=
  ∀ (p : Flags) (v : Byte),
    ((p.withZN v).z = true ↔ v = 0) ∧ ((p.withZN v).n = true ↔ 128 ≤ v.toNat) ∧
    (p.withZN v).c = p.c ∧ (p.withZN v).v = p.v ∧ (p.withZN v).d = p.d ∧ (p.withZN v).i = p.i

/-! ## Memory and the stack -/

/-- R51, R52: a backed byte reads as last written, a write elsewhere leaves it, an unbacked address reads 0 and a write there
changes nothing at all. -/
def Obligations.ReadAfterWrite : Prop :=
  ∀ (s : State) (a b : Word) (v : Byte),
    (a.toNat < s.cfg.memSize → (s.memWrite a v).memRead a = v) ∧
    (b ≠ a → (s.memWrite a v).memRead b = s.memRead b) ∧
    (s.cfg.memSize ≤ a.toNat → s.memRead a = 0 ∧ s.memWrite a v = s)

/-- R53, R54: a word access is two byte accesses at `addr` and `(addr + 1) mod 65536`, the low byte first, each
bounds-checked alone (the spec's decisions D6 and D7, log 14); a word written at two backed addresses reads back. -/
def Obligations.WordAccessIsTwoBytes : Prop :=
  ∀ (s : State) (a : Word) (w : Word),
    let a' : Word := BitVec.ofNat 16 ((a.toNat + 1) % 65536)
    (s.memRead16 a).toNat = (s.memRead a').toNat * 256 + (s.memRead a).toNat ∧
    s.memWrite16 a w = (s.memWrite a (BitVec.ofNat 8 (w.toNat % 256))).memWrite a' (BitVec.ofNat 8 (w.toNat / 256)) ∧
    (a.toNat < s.cfg.memSize → a'.toNat < s.cfg.memSize → (s.memWrite16 a w).memRead16 a = w)

/-- R60 to R64: where a push writes, how S moves modulo 256, that a pop gives back what was pushed in a backed stack page,
and that the low byte of a word lies at the lower offset; the words' order is partly the spec's inference (R64, G4). -/
def Obligations.StackPushAndPop : Prop :=
  ∀ (s : State) (v : Byte) (w : Word),
    (stackAddr s.cfg.stackPage s.sp).toNat = s.cfg.stackPage.toNat * 256 + s.sp.toNat ∧
    s.push8 v = { s.memWrite (stackAddr s.cfg.stackPage s.sp) v with sp := s.sp - 1 } ∧
    s.popped8 = { s with sp := s.sp + 1 } ∧ s.popByte = s.memRead (stackAddr s.cfg.stackPage (s.sp + 1)) ∧
    s.push16 w = (s.push8 (BitVec.ofNat 8 (w.toNat / 256))).push8 (BitVec.ofNat 8 (w.toNat % 256)) ∧
    s.popped16 = s.popped8.popped8 ∧ s.popWord.toNat = s.popped8.popByte.toNat * 256 + s.popByte.toNat ∧
    (s.cfg.stackPage.toNat * 256 + 255 < s.cfg.memSize →
      (s.push8 v).popByte = v ∧ (s.push8 v).popped8.sp = s.sp ∧
      (s.push16 w).popWord = w ∧ (s.push16 w).popped16.sp = s.sp)

/-! ## Addressing modes -/

/-- R101 to R110, R114: the effective address of every mode as a number, and the operand as the byte there, which for an
immediate is the operand byte itself (log 10). Sums in page 0 wrap modulo 256, the others modulo 65536, pointers are read
flat (the wraps are decision D6, log 14; the flat zero-page pointer is C1, log 20). -/
def Obligations.EffectiveAddresses : Prop :=
  ∀ (s : State) (b : Byte) (w : Word),
    (ea (.imm b) s).toNat = (s.pc.toNat + 1) % 65536 ∧
    (ea (.zp b) s).toNat = b.toNat ∧
    (ea (.zpx b) s).toNat = (b.toNat + s.x.toNat) % 256 ∧
    (ea (.zpy b) s).toNat = (b.toNat + s.y.toNat) % 256 ∧
    ea (.abs w) s = w ∧
    (ea (.abx w) s).toNat = (w.toNat + s.x.toNat) % 65536 ∧
    (ea (.aby w) s).toNat = (w.toNat + s.y.toNat) % 65536 ∧
    (ea (.ind w) s).toNat = (s.memRead (w + 1)).toNat * 256 + (s.memRead w).toNat ∧
    (let ptr := (b.toNat + s.x.toNat) % 256
     (ea (.izx b) s).toNat = (s.memRead (BitVec.ofNat 16 (ptr + 1))).toNat * 256 + (s.memRead (BitVec.ofNat 16 ptr)).toNat) ∧
    (let base := (s.memRead (BitVec.ofNat 16 (b.toNat + 1))).toNat * 256 + (s.memRead (BitVec.ofNat 16 b.toNat)).toNat
     (ea (.izy b) s).toNat = (base + s.y.toNat) % 65536) ∧
    operand (.imm b) s = b ∧
    operand (.zp b) s = s.memRead (ea (.zp b) s) ∧
    operand (.zpx b) s = s.memRead (ea (.zpx b) s) ∧
    operand (.zpy b) s = s.memRead (ea (.zpy b) s) ∧
    operand (.abs w) s = s.memRead (ea (.abs w) s) ∧
    operand (.abx w) s = s.memRead (ea (.abx w) s) ∧
    operand (.aby w) s = s.memRead (ea (.aby w) s) ∧
    operand (.ind w) s = s.memRead (ea (.ind w) s) ∧
    operand (.izx b) s = s.memRead (ea (.izx b) s) ∧
    operand (.izy b) s = s.memRead (ea (.izy b) s)

/-! ## Loads, stores, transfers -/

/-- R120 to R122: every form of LDA, LDX, LDY. -/
def Obligations.LoadsPutTheOperand : Prop :=
  Forms.Loads Forms.ldaRows (fun s v => { s with a := v }) ∧
  Forms.Loads Forms.ldxRows (fun s v => { s with x := v }) ∧
  Forms.Loads Forms.ldyRows (fun s v => { s with y := v })

/-- R123 to R125: every form of STA, STX, STY; STA has no immediate form. -/
def Obligations.StoresPutTheRegister : Prop :=
  Forms.Stores Forms.staRows (·.a) ∧ Forms.Stores Forms.stxRows (·.x) ∧ Forms.Stores Forms.styRows (·.y) ∧
  ∀ rest, decode (0x89 :: rest) = .reject (.illegalOpcode 0x89)

/-- R126 to R131: the six transfers; that TXS writes no flag is the spec's decision D18 (log 17). -/
def Obligations.TransfersCopyTheRegister : Prop :=
  Forms.PutsZN 0xAA .tax (fun s v => { s with x := v }) (·.a) ∧
  Forms.PutsZN 0xA8 .tay (fun s v => { s with y := v }) (·.a) ∧
  Forms.PutsZN 0x8A .txa (fun s v => { s with a := v }) (·.x) ∧
  Forms.PutsZN 0x98 .tya (fun s v => { s with a := v }) (·.y) ∧
  Forms.PutsZN 0xBA .tsx (fun s v => { s with x := v }) (·.sp) ∧
  ∀ s : State, encode .txs = [0x9A] ∧ exec .txs s = .next { s with sp := s.x, pc := s.pc + 1 }

/-! ## Logic -/

/-- R140 to R142: every form of AND, ORA, EOR. -/
def Obligations.LogicalResults : Prop :=
  Forms.Logical Forms.andRows and ∧ Forms.Logical Forms.oraRows or ∧ Forms.Logical Forms.eorRows xor

/-- R143: both forms of BIT. -/
def Obligations.BitTestsTheOperand : Prop :=
  ∀ (m : Mode) (op : Byte) (i : Instr) (s : State), Forms.bitRows m = some (op, i) →
    encode i = op :: Forms.bytes m ∧
    exec i s = .next { s with
      p := { s.p with
        z := decide (s.a &&& operand m s = 0)
        n := (operand m s).getLsbD 7
        v := (operand m s).getLsbD 6 }
      pc := Forms.after m s }

/-! ## Arithmetic -/

/-- R150: the binary sum, its carry, and V exactly when the signed sum lies outside -128..127. -/
def Obligations.AdcBinIsTheNineBitSum : Prop :=
  ∀ (a m : Byte) (c : Bool),
    (adcBin a m c).r.toNat = (a.toNat + m.toNat + c.toNat) % 256 ∧
    ((adcBin a m c).c = true ↔ 256 ≤ a.toNat + m.toNat + c.toNat) ∧
    ((adcBin a m c).v = true ↔ a.getLsbD 7 = m.getLsbD 7 ∧ (adcBin a m c).r.getLsbD 7 ≠ a.getLsbD 7) ∧
    ((adcBin a m c).v = true ↔ a.toInt + m.toInt + c.toNat < -128 ∨ 127 < a.toInt + m.toInt + c.toNat)

/-- R153: the binary difference, the absence of a borrow, V, and that SBC is ADC of the complement in all three
results, which is the spec's inference. -/
def Obligations.SbcBinIsTheNineBitDifference : Prop :=
  ∀ (a m : Byte) (c : Bool),
    ((sbcBin a m c).r.toNat : Int) = ((a.toNat : Int) - m.toNat - (1 - (c.toNat : Int))) % 256 ∧
    ((sbcBin a m c).c = true ↔ m.toNat + 1 ≤ a.toNat + c.toNat) ∧
    ((sbcBin a m c).v = true ↔ a.getLsbD 7 ≠ m.getLsbD 7 ∧ (sbcBin a m c).r.getLsbD 7 ≠ a.getLsbD 7) ∧
    sbcBin a m c = adcBin a (m ^^^ 0xFF) c

/-- R152 with D = 0: every form of ADC, numbers for the result and the carry. -/
def Obligations.BinaryAdcResult : Prop :=
  ∀ (m : Mode) (op : Byte) (i : Instr) (s : State), Forms.adcRows m = some (op, i) → s.p.d = false →
    encode i = op :: Forms.bytes m ∧
    let v := operand m s
    let sum := s.a.toNat + v.toNat + s.p.c.toNat
    let r : Byte := BitVec.ofNat 8 sum
    exec i s = .next { s with
      a := r
      p := { s.p with
        c := decide (256 ≤ sum)
        v := decide (s.a.getLsbD 7 = v.getLsbD 7 ∧ r.getLsbD 7 ≠ s.a.getLsbD 7)
        z := decide (r = 0)
        n := r.getLsbD 7 }
      pc := Forms.after m s }

/-- R155 with D = 0: every form of SBC, numbers for the result and the carry. -/
def Obligations.BinarySbcResult : Prop :=
  ∀ (m : Mode) (op : Byte) (i : Instr) (s : State), Forms.sbcRows m = some (op, i) → s.p.d = false →
    encode i = op :: Forms.bytes m ∧
    let v := operand m s
    let r : Byte := BitVec.ofNat 8 (s.a.toNat + 255 - v.toNat + s.p.c.toNat)
    exec i s = .next { s with
      a := r
      p := { s.p with
        c := decide (v.toNat + 1 ≤ s.a.toNat + s.p.c.toNat)
        v := decide (s.a.getLsbD 7 ≠ v.getLsbD 7 ∧ r.getLsbD 7 ≠ s.a.getLsbD 7)
        z := decide (r = 0)
        n := r.getLsbD 7 }
      pc := Forms.after m s }

/-- What the document settles of decimal ADC (R151, R152): for valid BCD operands A and C are the two-digit sum and its
base-100 carry, and everything but N, Z, V and the model's counter is as said. It holds whatever `cfg.decimalOpen` and the
free values are, so it rests on no choice of log 5 to 7; N, Z and V are left open (U1). -/
def Obligations.DecimalAdcOnBcd : Prop :=
  ∀ (m : Mode) (op : Byte) (i : Instr) (s : State), Forms.adcRows m = some (op, i) → s.p.d = true →
    Forms.isBcd s.a → Forms.isBcd (operand m s) →
    let sum := Forms.dec s.a + Forms.dec (operand m s) + s.p.c.toNat
    ∃ (n v z : Bool) (k : Nat), exec i s = .next { s with
      a := Forms.bcd (sum % 100)
      p := { s.p with c := decide (100 ≤ sum), n := n, v := v, z := z }
      pc := Forms.after m s
      draws := k }

/-- What the document settles of decimal SBC (R154, R155), in the same form; the -6 correction is decision D13 (C8). -/
def Obligations.DecimalSbcOnBcd : Prop :=
  ∀ (m : Mode) (op : Byte) (i : Instr) (s : State), Forms.sbcRows m = some (op, i) → s.p.d = true →
    Forms.isBcd s.a → Forms.isBcd (operand m s) →
    let diff : Int := (Forms.dec s.a : Int) - Forms.dec (operand m s) - (1 - (s.p.c.toNat : Int))
    ∃ (n v z : Bool) (k : Nat), exec i s = .next { s with
      a := Forms.bcd (diff % 100).toNat
      p := { s.p with c := decide (0 ≤ diff), n := n, v := v, z := z }
      pc := Forms.after m s
      draws := k }

/-- The spec's own decisions D11 and D12 (log 5, 6), in force where `cfg.decimalOpen` is false, on every operand, valid BCD or
not: A and C are the numbers of R151 or R154 (the correction of R154 is decision D13, log 19), Z and N come from that
result, V from the binary result. -/
def Obligations.DecimalByTheSpecsDecisions : Prop :=
  (∀ (m : Mode) (op : Byte) (i : Instr) (s : State), Forms.adcRows m = some (op, i) → s.p.d = true →
    s.cfg.decimalOpen = false →
    let v := operand m s
    let o := Forms.decimalSum s.a.toNat v.toNat s.p.c.toNat
    let r : Byte := BitVec.ofNat 8 o.1
    let bin : Byte := BitVec.ofNat 8 (s.a.toNat + v.toNat + s.p.c.toNat)
    r.toNat = o.1 ∧
    exec i s = .next { s with
      a := r
      p := { s.p with
        c := o.2
        v := decide (s.a.getLsbD 7 = v.getLsbD 7 ∧ bin.getLsbD 7 ≠ s.a.getLsbD 7)
        z := decide (r = 0)
        n := r.getLsbD 7 }
      pc := Forms.after m s }) ∧
  (∀ (m : Mode) (op : Byte) (i : Instr) (s : State), Forms.sbcRows m = some (op, i) → s.p.d = true →
    s.cfg.decimalOpen = false →
    let v := operand m s
    let o := Forms.decimalDifference s.a.toNat v.toNat s.p.c.toNat
    let r : Byte := BitVec.ofInt 8 o.1
    let bin : Byte := BitVec.ofNat 8 (s.a.toNat + 255 - v.toNat + s.p.c.toNat)
    (r.toNat : Int) = o.1 ∧
    exec i s = .next { s with
      a := r
      p := { s.p with
        c := o.2
        v := decide (s.a.getLsbD 7 ≠ v.getLsbD 7 ∧ bin.getLsbD 7 ≠ s.a.getLsbD 7)
        z := decide (r = 0)
        n := r.getLsbD 7 }
      pc := Forms.after m s })

/-- The frame of a decimal ADC or SBC on any operands and in both settings of `cfg.decimalOpen` (log 5 to 7): it completes,
and nothing but A, N, V, Z, C, pc and the model's counter may change. -/
def Obligations.DecimalAlwaysCompletes : Prop :=
  ∀ (m : Mode) (op : Byte) (i : Instr) (s : State),
    (Forms.adcRows m = some (op, i) ∨ Forms.sbcRows m = some (op, i)) → s.p.d = true →
    ∃ (r : Byte) (n v z c : Bool) (k : Nat), exec i s = .next { s with
      a := r
      p := { s.p with n := n, v := v, z := z, c := c }
      pc := Forms.after m s
      draws := k }

/-- C2: an ADC with carry 0 and then an SBC of the same byte with carry 1 restores A, in binary mode. -/
def Obligations.AdcThenSbcRestoresA : Prop :=
  ∀ (v : Byte) (s t u : State), s.p.d = false → s.p.c = false →
    exec (.adcImm v) s = .next t → exec (.sbcImm v) { t with p := { t.p with c := true } } = .next u → u.a = s.a

/-- R156 to R159: every form of CMP, CPX, CPY; binary in both modes, V untouched. -/
def Obligations.ComparesWriteCZN : Prop :=
  Forms.Compares Forms.cmpRows (·.a) ∧ Forms.Compares Forms.cpxRows (·.x) ∧ Forms.Compares Forms.cpyRows (·.y)

/-! ## Shifts, increments -/

/-- R170 to R174: every form of ASL, LSR, ROL, ROR, results as numbers. -/
def Obligations.ShiftsAndRotates : Prop :=
  Forms.Shifts Forms.aslRows 0x0A .aslAcc (fun _ v => v * 2) 7 ∧
  Forms.Shifts Forms.lsrRows 0x4A .lsrAcc (fun _ v => v / 2) 0 ∧
  Forms.Shifts Forms.rolRows 0x2A .rolAcc (fun c v => v * 2 + c) 7 ∧
  Forms.Shifts Forms.rorRows 0x6A .rorAcc (fun c v => v / 2 + c * 128) 0

/-- R175, R176: every form of INC and DEC. -/
def Obligations.IncDecMemory : Prop :=
  Forms.Modifies Forms.incRows 1 ∧ Forms.Modifies Forms.decRows 255

/-- R177 to R180: INX, INY, DEX, DEY wrap modulo 256 and touch neither C nor V. -/
def Obligations.IncDecIndexRegisters : Prop :=
  Forms.PutsZN 0xE8 .inx (fun s v => { s with x := v }) (fun s => BitVec.ofNat 8 (s.x.toNat + 1)) ∧
  Forms.PutsZN 0xC8 .iny (fun s v => { s with y := v }) (fun s => BitVec.ofNat 8 (s.y.toNat + 1)) ∧
  Forms.PutsZN 0xCA .dex (fun s v => { s with x := v }) (fun s => BitVec.ofNat 8 (s.x.toNat + 255)) ∧
  Forms.PutsZN 0x88 .dey (fun s v => { s with y := v }) (fun s => BitVec.ofNat 8 (s.y.toNat + 255))

/-! ## Stack and flag instructions -/

/-- R190, R191: PHA pushes A; PHP pushes the flags with bits 5 and 4 set; bit 4 is the spec's decision D4 (log 12). -/
def Obligations.PushesStoreAtTheStackAddress : Prop :=
  ∀ s : State,
    let at_ : Word := BitVec.ofNat 16 (s.cfg.stackPage.toNat * 256 + s.sp.toNat)
    let flags : Byte := BitVec.ofNat 8 (s.p.n.toNat * 128 + s.p.v.toNat * 64 + 48 + s.p.d.toNat * 8 + s.p.i.toNat * 4
      + s.p.z.toNat * 2 + s.p.c.toNat)
    encode .pha = [0x48] ∧ exec .pha s = .next { s.memWrite at_ s.a with sp := s.sp - 1, pc := s.pc + 1 } ∧
    encode .php = [0x08] ∧ exec .php s = .next { s.memWrite at_ flags with sp := s.sp - 1, pc := s.pc + 1 }

/-- R192, R193: PLA loads A and sets Z and N; PLP writes all six flags and ignores bits 5 and 4 (the spec's decision D5,
log 12). -/
def Obligations.PullsReadTheNextStackByte : Prop :=
  ∀ s : State,
    let v := s.memRead (BitVec.ofNat 16 (s.cfg.stackPage.toNat * 256 + (s.sp.toNat + 1) % 256))
    encode .pla = [0x68] ∧
    exec .pla s = .next { s with
      a := v, sp := s.sp + 1, p := { s.p with z := decide (v = 0), n := v.getLsbD 7 }, pc := s.pc + 1 } ∧
    encode .plp = [0x28] ∧
    exec .plp s = .next { s with
      sp := s.sp + 1
      p := ⟨v.getLsbD 7, v.getLsbD 6, v.getLsbD 3, v.getLsbD 2, v.getLsbD 1, v.getLsbD 0⟩
      pc := s.pc + 1 }

/-- R194 to R201: each flag instruction writes its flag and nothing else; NOP writes nothing but pc. -/
def Obligations.FlagInstructionsAndNop : Prop :=
  Forms.SetsFlags 0x18 .clc (fun p => { p with c := false }) ∧ Forms.SetsFlags 0x38 .sec (fun p => { p with c := true }) ∧
  Forms.SetsFlags 0x58 .cli (fun p => { p with i := false }) ∧ Forms.SetsFlags 0x78 .sei (fun p => { p with i := true }) ∧
  Forms.SetsFlags 0xD8 .cld (fun p => { p with d := false }) ∧ Forms.SetsFlags 0xF8 .sed (fun p => { p with d := true }) ∧
  Forms.SetsFlags 0xB8 .clv (fun p => { p with v := false }) ∧ Forms.SetsFlags 0xEA .nop id

/-! ## Control transfer -/

/-- R210 to R218: the eight branches; the base pc + 2 is the spec's decision D17 (log 16). -/
def Obligations.BranchesAddTheDisplacement : Prop :=
  Forms.Branches 0x90 .bcc (fun p => !p.c) ∧ Forms.Branches 0xB0 .bcs (·.c) ∧
  Forms.Branches 0xF0 .beq (·.z) ∧ Forms.Branches 0xD0 .bne (fun p => !p.z) ∧
  Forms.Branches 0x30 .bmi (·.n) ∧ Forms.Branches 0x10 .bpl (fun p => !p.n) ∧
  Forms.Branches 0x50 .bvc (fun p => !p.v) ∧ Forms.Branches 0x70 .bvs (·.v)

/-- R219: JMP in both forms; the indirect form reads its pointer flat, across a page boundary. -/
def Obligations.JumpsLoadPc : Prop :=
  ∀ (w : Word) (s : State),
    encode (.jmpAbs w) = [0x4C, BitVec.ofNat 8 w.toNat, BitVec.ofNat 8 (w.toNat / 256)] ∧
    exec (.jmpAbs w) s = .next { s with pc := w } ∧
    encode (.jmpInd w) = [0x6C, BitVec.ofNat 8 w.toNat, BitVec.ofNat 8 (w.toNat / 256)] ∧
    exec (.jmpInd w) s = .next { s with
      pc := BitVec.ofNat 16 ((s.memRead (BitVec.ofNat 16 (w.toNat + 1))).toNat * 256 + (s.memRead w).toNat) }

/-- R220: JSR pushes the address of its last byte, high byte first, each byte wrapping in the stack page, and jumps. The
order is the spec's decision D23 (log 19). -/
def Obligations.JsrPushesItsLastAddress : Prop :=
  ∀ (w : Word) (s : State),
    let ret := (s.pc.toNat + 2) % 65536
    let page := s.cfg.stackPage.toNat * 256
    encode (.jsr w) = [0x20, BitVec.ofNat 8 w.toNat, BitVec.ofNat 8 (w.toNat / 256)] ∧
    exec (.jsr w) s = .next
      { (s.memWrite (BitVec.ofNat 16 (page + s.sp.toNat)) (BitVec.ofNat 8 (ret / 256))).memWrite
          (BitVec.ofNat 16 (page + (s.sp.toNat + 255) % 256)) (BitVec.ofNat 8 ret) with
        sp := s.sp - 2, pc := w }

/-- R221: RTS pops the low byte, then the high byte, and resumes one address further. -/
def Obligations.RtsPopsAndAddsOne : Prop :=
  ∀ s : State,
    let page := s.cfg.stackPage.toNat * 256
    let lo := s.memRead (BitVec.ofNat 16 (page + (s.sp.toNat + 1) % 256))
    let hi := s.memRead (BitVec.ofNat 16 (page + (s.sp.toNat + 2) % 256))
    encode .rts = [0x60] ∧
    exec .rts s = .next { s with sp := s.sp + 2, pc := BitVec.ofNat 16 (hi.toNat * 256 + lo.toNat + 1) }

/-- R222: BRK's own step moves pc past the padding byte, which it does not read, and requests; BRK outranks what is in the
slot unless that is a BRK (R248). The spec's decisions D14 and D16 (log 13, 15). -/
def Obligations.BrkRequestsAndSkipsItsPad : Prop :=
  ∀ (pad : Byte) (s : State), encode (.brk pad) = [0x00, pad] ∧
    exec (.brk pad) s = .next { s with
      pc := s.pc + 2
      irqReq := match s.irqReq with
        | some ⟨.brk, v⟩ => some ⟨.brk, v⟩
        | _ => some ⟨.brk, s.cfg.vecIrq⟩ }

/-- R223: RTI pops the six flags (bits 5 and 4 ignored), then pc, low byte first, and adds nothing. The ignored bits are
the spec's decision D5 (log 12). -/
def Obligations.RtiPopsFlagsThenPc : Prop :=
  ∀ s : State,
    let page := s.cfg.stackPage.toNat * 256
    let v := s.memRead (BitVec.ofNat 16 (page + (s.sp.toNat + 1) % 256))
    let lo := s.memRead (BitVec.ofNat 16 (page + (s.sp.toNat + 2) % 256))
    let hi := s.memRead (BitVec.ofNat 16 (page + (s.sp.toNat + 3) % 256))
    encode .rti = [0x40] ∧
    exec .rti s = .next { s with
      sp := s.sp + 3
      p := ⟨v.getLsbD 7, v.getLsbD 6, v.getLsbD 3, v.getLsbD 2, v.getLsbD 1, v.getLsbD 0⟩
      pc := BitVec.ofNat 16 (hi.toNat * 256 + lo.toNat) }

/-- The document's property of R221: JSR immediately followed by RTS comes back to the instruction after the JSR, with
everything but pc and the two stack bytes as before; the stack page is backed. -/
def Obligations.JsrThenRtsReturns : Prop :=
  ∀ (w : Word) (s t u : State), s.cfg.stackPage.toNat * 256 + 255 < s.cfg.memSize →
    exec (.jsr w) s = .next t → exec .rts t = .next u →
    u.pc = s.pc + 3 ∧ u.sp = s.sp ∧ u.a = s.a ∧ u.x = s.x ∧ u.y = s.y ∧ u.p = s.p ∧
    u.cfg = s.cfg ∧ u.irqReq = s.irqReq ∧ u.halted = s.halted ∧ u.cyc = s.cyc ∧ u.draws = s.draws ∧
    ∀ a : Word, a ∉ Forms.storedTo (.jsr w) s → u.memRead a = s.memRead a

/-! ## Interrupts -/

/-- R248: the request slot and the collision policy, kind by kind: the spec's decisions D14 and D19 (log 13). -/
def Obligations.RequestCollisionPolicy : Prop :=
  ∀ (s : State) (k : IrqKind),
    let new : Option Request := some ⟨k, match k with | .nmi => s.cfg.vecNmi | .irq => s.cfg.vecIrq | .brk => s.cfg.vecIrq⟩
    (s.irqReq = none → s.request k = { s with irqReq := new }) ∧
    (∀ v, s.irqReq = some ⟨.irq, v⟩ → s.request k = if k = .irq then s else { s with irqReq := new }) ∧
    (∀ v, s.irqReq = some ⟨.nmi, v⟩ → s.request k = if k = .brk then { s with irqReq := new } else s) ∧
    (∀ v, s.irqReq = some ⟨.brk, v⟩ → s.request k = s) ∧
    (∀ nmi : Bool, (HostOp.raise nmi).apply s = s.request (if nmi then .nmi else .irq))

/-- R251 to R253: entry pushes pc high, pc low and the flags (bit 5 set, bit 4 only for BRK, the old I), sets I, loads pc from
the captured vector, empties the slot and charges 7 cycles; A, X, Y, N, V, D, Z, C and the configuration stay.
The flags' places in the byte and the marker without storage are the spec's decisions D2 and D3 (R27, log 12), that the
vector was captured with the request is D19 (log 13). -/
def Obligations.ServicePushesAndVectors : Prop :=
  ∀ (r : Request) (s : State),
    let page := s.cfg.stackPage.toNat * 256
    let flags : Byte := BitVec.ofNat 8 (s.p.n.toNat * 128 + s.p.v.toNat * 64 + 32 + (if r.kind = .brk then 16 else 0)
      + s.p.d.toNat * 8 + s.p.i.toNat * 4 + s.p.z.toNat * 2 + s.p.c.toNat)
    let u := ((s.memWrite (BitVec.ofNat 16 (page + s.sp.toNat)) (BitVec.ofNat 8 (s.pc.toNat / 256))).memWrite
      (BitVec.ofNat 16 (page + (s.sp.toNat + 255) % 256)) (BitVec.ofNat 8 s.pc.toNat)).memWrite
      (BitVec.ofNat 16 (page + (s.sp.toNat + 254) % 256)) flags
    service r s = { u with
      sp := s.sp - 3
      p := { s.p with i := true }
      pc := BitVec.ofNat 16 ((u.memRead (r.vector + 1)).toNat * 256 + (u.memRead r.vector).toNat)
      irqReq := none
      cyc := s.cyc + 7 }

/-- R259: with an empty slot, the byte 0 at pc and a quiet host, two steps are the classical BRK: the second enters with
pc + 2 and Break marker 1 through the IRQ vector, whatever I is. The two steps are the spec's decision D16 (log 15). -/
def Obligations.BrkTakesTwoSteps : Prop :=
  ∀ s : State, s.halted = false → s.irqReq = none → s.memRead s.pc = 0 →
    ∃ t : State, step s = .next t ∧ t.pc = s.pc + 2 ∧ t.irqReq = some ⟨.brk, s.cfg.vecIrq⟩ ∧ t.p = s.p ∧ t.mem = s.mem ∧
      step t = .next (service ⟨.brk, s.cfg.vecIrq⟩ t)

/-- R256: RTI after an entry gives back pc, the six flags and S, in a backed stack page. -/
def Obligations.RtiReversesService : Prop :=
  ∀ (r : Request) (s t : State), s.cfg.stackPage.toNat * 256 + 255 < s.cfg.memSize →
    exec .rti (service r s) = .next t →
    t.pc = s.pc ∧ t.p = s.p ∧ t.sp = s.sp ∧ t.a = s.a ∧ t.x = s.x ∧ t.y = s.y

/-! ## Reset and the host -/

/-- R280, R281: Reset loads pc from the reset vector, S with RESET_S, sets I, clears the halted latch, and changes nothing
else: the spec's decisions D8, D9 and D15 (log 2, 18). -/
def Obligations.ResetWritesOnlyPcSIAndHalted : Prop :=
  ∀ s : State, HostOp.reset.apply s = { s with
    pc := BitVec.ofNat 16 ((s.memRead (s.cfg.vecReset + 1)).toNat * 256 + (s.memRead s.cfg.vecReset).toNat)
    sp := s.cfg.resetS
    p := { s.p with i := true }
    halted := false }

/-- R243, R282: a size of 0 gives no core; any other size gives one with zero memory, an empty slot, `halted` and `cyc` 0,
the size clamped to 65536 and the other parameters as given; the registers are whatever they are (D10, log 1). -/
def Obligations.ConstructionClampsTheSize : Prop :=
  ∀ (n : Nat) (c : HwConfig) (u : PowerOn),
    (construct n c u = none ↔ n = 0) ∧
    ∀ s, construct n c u = some s →
      s.cfg = { c with memSize := min n 65536 } ∧ s.irqReq = none ∧ s.halted = false ∧ s.cyc = 0 ∧
      (∀ a, s.memRead a = 0) ∧ s.a = u.a ∧ s.x = u.x ∧ s.y = u.y ∧ s.sp = u.sp ∧ s.pc = u.pc ∧ s.p = u.p

/-- R283: Load stores byte k of the image at offset + k where that lies below both 65536 and MEM_SIZE, leaves every other
byte, and then does a Reset: the spec's decision D21 (log 19). -/
def Obligations.LoadCopiesTheImageAndResets : Prop :=
  ∀ (s : State) (image : List Byte) (offset : Word),
    let t := (HostOp.load image offset).apply s
    (∃ u : State, t = HostOp.reset.apply u ∧ (∀ a, u.memRead a = t.memRead a) ∧ u.a = s.a ∧ u.x = s.x ∧ u.y = s.y ∧
      u.p = s.p ∧ u.cfg = s.cfg ∧ u.irqReq = s.irqReq ∧ u.cyc = s.cyc ∧ u.draws = s.draws) ∧
    (∀ (k : Nat) (b : Byte), image[k]? = some b → offset.toNat + k < 65536 → offset.toNat + k < s.cfg.memSize →
      t.memRead (BitVec.ofNat 16 (offset.toNat + k)) = b) ∧
    (∀ a : Word, (a.toNat < offset.toNat ∨ offset.toNat + image.length ≤ a.toNat) → t.memRead a = s.memRead a)

/-! ## The whole machine -/

/-- Every event, a step or any operation of the host, keeps the invariant: a legal MEM_SIZE, memory in canonical form with
backed addresses only, and no halted latch outside strict mode (R7, R40, R52, R38). -/
def Obligations.EveryEventKeepsTheInvariant : Prop :=
  (∀ s t : State, s.Inv → step s = .next t → t.Inv) ∧ (∀ (s : State) (e : Event), s.Inv → (systemStep s e).Inv)

/-- The invariant holds at reset and after every construction. -/
def Obligations.InvariantHoldsAtTheStart : Prop :=
  State.reset.Inv ∧ ∀ (n : Nat) (c : HwConfig) (u : PowerOn) (s : State), construct n c u = some s → s.Inv

/-- R36: no step and no dispatch changes a configuration register, and the host changes none but the stack page and the
vectors, each by its own setter. R290, R291: what every other direct operation of the host writes, in full (pops in S
alone); the byte the host writes to P loses bits 5 and 4 (decision D5, log 12). -/
def Obligations.NoStepChangesTheConfiguration : Prop :=
  (∀ s t : State, step s = .next t → t.cfg = s.cfg) ∧
  (∀ s : State, (dispatch s).1.cfg = s.cfg) ∧
  (∀ (s : State) (op : HostOp), (op.apply s).cfg = match op with
    | .setStackPage v => { s.cfg with stackPage := v }
    | .setVecNmi v => { s.cfg with vecNmi := v }
    | .setVecReset v => { s.cfg with vecReset := v }
    | .setVecIrq v => { s.cfg with vecIrq := v }
    | _ => s.cfg) ∧
  ∀ (s : State) (a w : Word) (v : Byte) (b : Bool),
    let page := s.cfg.stackPage.toNat * 256
    let hi : Byte := BitVec.ofNat 8 (w.toNat / 256)
    let lo : Byte := BitVec.ofNat 8 w.toNat
    HostOp.apply (.poke a v) s = s.memWrite a v ∧
    HostOp.apply (.pokeWord a w) s = (s.memWrite a lo).memWrite (BitVec.ofNat 16 (a.toNat + 1)) hi ∧
    HostOp.apply (.push8 v) s = { s.memWrite (BitVec.ofNat 16 (page + s.sp.toNat)) v with sp := s.sp - 1 } ∧
    HostOp.apply (.push16 w) s =
      { (s.memWrite (BitVec.ofNat 16 (page + s.sp.toNat)) hi).memWrite
          (BitVec.ofNat 16 (page + (s.sp.toNat + 255) % 256)) lo with sp := s.sp - 2 } ∧
    HostOp.apply .pop8 s = { s with sp := s.sp + 1 } ∧
    HostOp.apply .pop16 s = { s with sp := s.sp + 2 } ∧
    HostOp.apply (.setA v) s = { s with a := v } ∧
    HostOp.apply (.setX v) s = { s with x := v } ∧
    HostOp.apply (.setY v) s = { s with y := v } ∧
    HostOp.apply (.setS v) s = { s with sp := v } ∧
    HostOp.apply (.setPc w) s = { s with pc := w } ∧
    HostOp.apply (.setP v) s =
      { s with p := ⟨v.getLsbD 7, v.getLsbD 6, v.getLsbD 3, v.getLsbD 2, v.getLsbD 1, v.getLsbD 0⟩ } ∧
    HostOp.apply (.setFlag .n b) s = { s with p := { s.p with n := b } } ∧
    HostOp.apply (.setFlag .v b) s = { s with p := { s.p with v := b } } ∧
    HostOp.apply (.setFlag .d b) s = { s with p := { s.p with d := b } } ∧
    HostOp.apply (.setFlag .i b) s = { s with p := { s.p with i := b } } ∧
    HostOp.apply (.setFlag .z b) s = { s with p := { s.p with z := b } } ∧
    HostOp.apply (.setFlag .c b) s = { s with p := { s.p with c := b } } ∧
    HostOp.apply (.setStackPage v) s = { s with cfg := { s.cfg with stackPage := v } } ∧
    HostOp.apply (.setVecNmi w) s = { s with cfg := { s.cfg with vecNmi := w } } ∧
    HostOp.apply (.setVecReset w) s = { s with cfg := { s.cfg with vecReset := w } } ∧
    HostOp.apply (.setVecIrq w) s = { s with cfg := { s.cfg with vecIrq := w } }

/-- R42: the instructions outside the lists of R42 leave A, X, Y and S alone; none changes the configuration (R36), the halted
latch (R38) or `cyc`, only BRK touches the request slot (R37), and only ADC and SBC the model's own counter (log 7). -/
def Obligations.RegisterFrame : Prop :=
  ∀ (i : Instr) (s t : State), exec i s = .next t →
    (i.mnemonic ∉ Forms.writesA → i.format ≠ .acc → t.a = s.a) ∧
    (i.mnemonic ∉ Forms.writesX → t.x = s.x) ∧
    (i.mnemonic ∉ Forms.writesY → t.y = s.y) ∧
    (i.mnemonic ∉ Forms.writesS → t.sp = s.sp) ∧
    (i.mnemonic ≠ .brk → t.irqReq = s.irqReq) ∧
    (i.mnemonic ≠ .adc → i.mnemonic ≠ .sbc → t.draws = s.draws) ∧
    t.cfg = s.cfg ∧ t.halted = s.halted ∧ t.cyc = s.cyc

/-- R30 to R35: an instruction outside a flag's list leaves that flag alone. -/
def Obligations.FlagFrame : Prop :=
  ∀ (i : Instr) (s t : State), exec i s = .next t →
    (i.mnemonic ∉ Forms.writesC → t.p.c = s.p.c) ∧
    (i.mnemonic ∉ Forms.writesZN → t.p.z = s.p.z ∧ t.p.n = s.p.n) ∧
    (i.mnemonic ∉ Forms.writesI → t.p.i = s.p.i) ∧
    (i.mnemonic ∉ Forms.writesD → t.p.d = s.p.d) ∧
    (i.mnemonic ∉ Forms.writesV → t.p.v = s.p.v)

/-- Every byte outside the addresses an instruction stores to reads as before; for an instruction that stores nothing, every
byte (R57, R65, D25). -/
def Obligations.MemoryFrame : Prop :=
  ∀ (i : Instr) (s t : State), exec i s = .next t →
    ∀ a : Word, a ∉ Forms.storedTo i s → t.memRead a = s.memRead a

/-- R249, R257, R258: while I is 1 a pending IRQ waits: the step is `exec` of the instruction decoded at pc with its cycles
charged, and the request is still in the slot after it unless that instruction is BRK, which replaces it with its own: the
spec's decisions D14 and D19 (log 13). -/
def Obligations.MaskedIrqWaits : Prop :=
  ∀ (s t : State) (v : Word), s.irqReq = some ⟨.irq, v⟩ → s.p.i = true → step s = .next t →
    ∃ (i : Instr) (rest : List Byte) (u : State), decode (Forms.fetched s) = .instr i rest ∧
      exec i s = .next u ∧ t = { u with cyc := u.cyc + cycleCost i s } ∧
      t.irqReq = if i.mnemonic = .brk then some ⟨.brk, s.cfg.vecIrq⟩ else some ⟨.irq, v⟩

/-- R299: a state is final for `done` exactly when pc is `done`, the latch is clear, nothing is serviceable, and the bytes at
pc are a JMP, absolute or indirect, or a taken branch to itself; and a step leaves a final state only for a final state that
differs in `cyc` alone. That a displacement of -2 is the branch to itself rests on the base pc + 2, the spec's decision D17
(log 16); the pointer of an indirect JMP is read flat (C1, log 20). -/
def Obligations.FinalStateStaysFinal : Prop :=
  (∀ (s : State) (done : Word), s.finalAt done = true ↔
    s.pc = done ∧ s.halted = false ∧ Forms.NothingDue s ∧
      ∃ (i : Instr) (rest : List Byte), decode (Forms.fetched s) = .instr i rest ∧ Forms.JumpsToItself i s) ∧
  ∀ (s : State) (done : Word), s.finalAt done = true →
    ∃ t : State, step s = .next t ∧ t = { s with cyc := t.cyc } ∧ t.finalAt done = true

/-- State.reset is the machine constructed with the defaults of R8 to R12 and MEM_SIZE 65536 (log 3), its registers and
flags 0 (log 1), after one Reset, whatever S and pc were at construction; RESET_S is the spec's decision D8 (log 2). -/
def Obligations.ResetStateIsConstructThenReset : Prop :=
  (∀ u : PowerOn, u.a = 0 → u.x = 0 → u.y = 0 → u.p = ⟨false, false, false, false, false, false⟩ →
    (construct 65536 HwConfig.default u).map HostOp.reset.apply = some State.reset) ∧
  State.reset.pc = 0 ∧ State.reset.sp = 0xFD ∧ State.reset.p.i = true ∧ State.reset.irqReq = none ∧
  (∀ a, State.reset.memRead a = 0)
end

