-- ==== Sys2Proof/Laws/Memory.lean ====
section
/-! SUPPORT. The memory array: read after write, and that every operation keeps the canonical form. -/

namespace Sys2Proof.Machine

theorem Memory.get_remove_same (m : Memory) (a : Nat) : (m.remove a).get a = 0 := by
  induction m with
  | nil => rfl
  | cons c rest ih =>
    by_cases h : c.1 = a
    · simpa [Memory.remove, h] using ih
    · simpa [Memory.remove, Memory.get, h] using ih

theorem Memory.get_remove_other (m : Memory) {a b : Nat} (h : b ≠ a) : (m.remove a).get b = m.get b := by
  induction m with
  | nil => rfl
  | cons c rest ih =>
    by_cases hc : c.1 = a
    · have hb : c.1 ≠ b := fun e => h (e ▸ hc)
      simpa [Memory.remove, Memory.get, hc, Ne.symm h] using ih
    · by_cases hb : c.1 = b
      · subst hb
        simp [Memory.remove, Memory.get, hc]
      · simpa [Memory.remove, Memory.get, hc, hb] using ih

theorem Memory.get_insert_same (m : Memory) (a : Nat) (v : Byte) (hm : ∀ c ∈ m, c.1 ≠ a) :
    (m.insert a v).get a = v := by
  induction m with
  | nil => simp [Memory.insert, Memory.get]
  | cons c rest ih =>
    have hc : c.1 ≠ a := hm c (by simp)
    by_cases h : a < c.1
    · simp [Memory.insert, Memory.get, h]
    · simpa [Memory.insert, Memory.get, h, hc] using ih fun c' h' => hm c' (by simp [h'])

theorem Memory.get_insert_other (m : Memory) {a b : Nat} (v : Byte) (h : b ≠ a) :
    (m.insert a v).get b = m.get b := by
  induction m with
  | nil => simp [Memory.insert, Memory.get, Memory.unlisted, Ne.symm h]
  | cons c rest ih =>
    by_cases ha : a < c.1
    · simp [Memory.insert, Memory.get, ha, Ne.symm h]
    · rw [Memory.insert, if_neg ha]
      simp only [Memory.get, ih]

theorem Memory.not_mem_remove (m : Memory) (a : Nat) : ∀ c ∈ m.remove a, c.1 ≠ a := by
  intro c hc
  simpa using (List.mem_filter.mp hc).2

/-- A read after a write to the same place gives the value written. -/
@[simp] theorem Memory.get_set_same (m : Memory) (a : Nat) (v : Byte) : (m.set a v).get a = v := by
  unfold Memory.set
  split
  · next h => rw [Memory.get_remove_same, h]; rfl
  · exact Memory.get_insert_same _ _ _ (Memory.not_mem_remove m a)

/-- A write leaves every other place alone. -/
theorem Memory.get_set_other (m : Memory) {a b : Nat} (v : Byte) (h : b ≠ a) : (m.set a v).get b = m.get b := by
  unfold Memory.set
  split
  · exact Memory.get_remove_other m h
  · rw [Memory.get_insert_other _ _ h, Memory.get_remove_other m h]

theorem Memory.mem_insert {m : Memory} {a : Nat} {v : Byte} {c : Host.Cell} (h : c ∈ m.insert a v) :
    c = (a, v) ∨ c ∈ m := by
  induction m with
  | nil => simpa [Memory.insert] using h
  | cons d rest ih =>
    by_cases ha : a < d.1
    · simpa [Memory.insert, ha] using h
    · simp only [Memory.insert, ha, if_false, List.mem_cons] at h
      rcases h with rfl | h
      · simp
      · rcases ih h with h | h <;> simp [h]

/-- What a set memory lists was listed before or is the cell written. -/
theorem Memory.mem_set {m : Memory} {a : Nat} {v : Byte} {c : Host.Cell} (h : c ∈ m.set a v) :
    (c = (a, v) ∧ v ≠ 0) ∨ c ∈ m := by
  unfold Memory.set at h
  split at h
  · exact .inr (List.mem_filter.mp h).1
  · next hv =>
    rcases Memory.mem_insert h with h | h
    · exact .inl ⟨h, hv⟩
    · exact .inr (List.mem_filter.mp h).1

theorem Memory.insert_pairwise {m : Memory} {a : Nat} {v : Byte}
    (hs : m.Pairwise (fun c c' => c.1 < c'.1)) (hm : ∀ c ∈ m, c.1 ≠ a) :
    (m.insert a v).Pairwise (fun c c' => c.1 < c'.1) := by
  induction m with
  | nil => simp [Memory.insert]
  | cons d rest ih =>
    have hd : d.1 ≠ a := hm d (by simp)
    rw [List.pairwise_cons] at hs
    by_cases ha : a < d.1
    · simp only [Memory.insert, ha, if_true, List.pairwise_cons]
      refine ⟨?_, hs⟩
      intro c hc
      rcases List.mem_cons.mp hc with rfl | hc
      · exact ha
      · exact Nat.lt_trans ha (hs.1 c hc)
    · simp only [Memory.insert, ha, if_false, List.pairwise_cons]
      refine ⟨?_, ih hs.2 fun c hc => hm c (by simp [hc])⟩
      intro c hc
      rcases Memory.mem_insert hc with rfl | hc
      · show d.1 < a
        omega
      · exact hs.1 c hc

/-- A write keeps the canonical form. -/
theorem Memory.set_wf {m : Memory} {a : Nat} (v : Byte) (h : m.wf) (ha : a < 65536) : (m.set a v).wf := by
  refine ⟨?_, ?_⟩
  · unfold Memory.set
    split
    · exact h.1.filter _
    · exact Memory.insert_pairwise (h.1.filter _) (Memory.not_mem_remove m a)
  · intro c hc
    rcases Memory.mem_set hc with ⟨rfl, hv⟩ | hc
    · exact ⟨hv, ha⟩
    · exact h.2 c hc

theorem reset_memory_wf : State.reset.mem.wf := by decide

end Sys2Proof.Machine
end

