-- ==== Sys2Proof/Laws/State.lean ====
section
/-! SUPPORT. One lemma per field per register update, so that no later proof unfolds a record update. -/

namespace Sys2Proof.Machine

@[simp] theorem State.setA_a (s : State) (v : Byte) : (s.setA v).a = v := rfl
@[simp] theorem State.setA_x (s : State) (v : Byte) : (s.setA v).x = s.x := rfl
@[simp] theorem State.setA_y (s : State) (v : Byte) : (s.setA v).y = s.y := rfl
@[simp] theorem State.setA_sp (s : State) (v : Byte) : (s.setA v).sp = s.sp := rfl
@[simp] theorem State.setA_pc (s : State) (v : Byte) : (s.setA v).pc = s.pc := rfl
@[simp] theorem State.setA_p (s : State) (v : Byte) : (s.setA v).p = s.p := rfl
@[simp] theorem State.setA_cfg (s : State) (v : Byte) : (s.setA v).cfg = s.cfg := rfl
@[simp] theorem State.setA_irqReq (s : State) (v : Byte) : (s.setA v).irqReq = s.irqReq := rfl
@[simp] theorem State.setA_halted (s : State) (v : Byte) : (s.setA v).halted = s.halted := rfl
@[simp] theorem State.setA_cyc (s : State) (v : Byte) : (s.setA v).cyc = s.cyc := rfl
@[simp] theorem State.setA_mem (s : State) (v : Byte) : (s.setA v).mem = s.mem := rfl
@[simp] theorem State.setA_draws (s : State) (v : Byte) : (s.setA v).draws = s.draws := rfl

@[simp] theorem State.setX_a (s : State) (v : Byte) : (s.setX v).a = s.a := rfl
@[simp] theorem State.setX_x (s : State) (v : Byte) : (s.setX v).x = v := rfl
@[simp] theorem State.setX_y (s : State) (v : Byte) : (s.setX v).y = s.y := rfl
@[simp] theorem State.setX_sp (s : State) (v : Byte) : (s.setX v).sp = s.sp := rfl
@[simp] theorem State.setX_pc (s : State) (v : Byte) : (s.setX v).pc = s.pc := rfl
@[simp] theorem State.setX_p (s : State) (v : Byte) : (s.setX v).p = s.p := rfl
@[simp] theorem State.setX_cfg (s : State) (v : Byte) : (s.setX v).cfg = s.cfg := rfl
@[simp] theorem State.setX_irqReq (s : State) (v : Byte) : (s.setX v).irqReq = s.irqReq := rfl
@[simp] theorem State.setX_halted (s : State) (v : Byte) : (s.setX v).halted = s.halted := rfl
@[simp] theorem State.setX_cyc (s : State) (v : Byte) : (s.setX v).cyc = s.cyc := rfl
@[simp] theorem State.setX_mem (s : State) (v : Byte) : (s.setX v).mem = s.mem := rfl
@[simp] theorem State.setX_draws (s : State) (v : Byte) : (s.setX v).draws = s.draws := rfl

@[simp] theorem State.setY_a (s : State) (v : Byte) : (s.setY v).a = s.a := rfl
@[simp] theorem State.setY_x (s : State) (v : Byte) : (s.setY v).x = s.x := rfl
@[simp] theorem State.setY_y (s : State) (v : Byte) : (s.setY v).y = v := rfl
@[simp] theorem State.setY_sp (s : State) (v : Byte) : (s.setY v).sp = s.sp := rfl
@[simp] theorem State.setY_pc (s : State) (v : Byte) : (s.setY v).pc = s.pc := rfl
@[simp] theorem State.setY_p (s : State) (v : Byte) : (s.setY v).p = s.p := rfl
@[simp] theorem State.setY_cfg (s : State) (v : Byte) : (s.setY v).cfg = s.cfg := rfl
@[simp] theorem State.setY_irqReq (s : State) (v : Byte) : (s.setY v).irqReq = s.irqReq := rfl
@[simp] theorem State.setY_halted (s : State) (v : Byte) : (s.setY v).halted = s.halted := rfl
@[simp] theorem State.setY_cyc (s : State) (v : Byte) : (s.setY v).cyc = s.cyc := rfl
@[simp] theorem State.setY_mem (s : State) (v : Byte) : (s.setY v).mem = s.mem := rfl
@[simp] theorem State.setY_draws (s : State) (v : Byte) : (s.setY v).draws = s.draws := rfl

@[simp] theorem State.setSp_a (s : State) (v : Byte) : (s.setSp v).a = s.a := rfl
@[simp] theorem State.setSp_x (s : State) (v : Byte) : (s.setSp v).x = s.x := rfl
@[simp] theorem State.setSp_y (s : State) (v : Byte) : (s.setSp v).y = s.y := rfl
@[simp] theorem State.setSp_sp (s : State) (v : Byte) : (s.setSp v).sp = v := rfl
@[simp] theorem State.setSp_pc (s : State) (v : Byte) : (s.setSp v).pc = s.pc := rfl
@[simp] theorem State.setSp_p (s : State) (v : Byte) : (s.setSp v).p = s.p := rfl
@[simp] theorem State.setSp_cfg (s : State) (v : Byte) : (s.setSp v).cfg = s.cfg := rfl
@[simp] theorem State.setSp_irqReq (s : State) (v : Byte) : (s.setSp v).irqReq = s.irqReq := rfl
@[simp] theorem State.setSp_halted (s : State) (v : Byte) : (s.setSp v).halted = s.halted := rfl
@[simp] theorem State.setSp_cyc (s : State) (v : Byte) : (s.setSp v).cyc = s.cyc := rfl
@[simp] theorem State.setSp_mem (s : State) (v : Byte) : (s.setSp v).mem = s.mem := rfl
@[simp] theorem State.setSp_draws (s : State) (v : Byte) : (s.setSp v).draws = s.draws := rfl

@[simp] theorem State.setPc_a (s : State) (v : Word) : (s.setPc v).a = s.a := rfl
@[simp] theorem State.setPc_x (s : State) (v : Word) : (s.setPc v).x = s.x := rfl
@[simp] theorem State.setPc_y (s : State) (v : Word) : (s.setPc v).y = s.y := rfl
@[simp] theorem State.setPc_sp (s : State) (v : Word) : (s.setPc v).sp = s.sp := rfl
@[simp] theorem State.setPc_pc (s : State) (v : Word) : (s.setPc v).pc = v := rfl
@[simp] theorem State.setPc_p (s : State) (v : Word) : (s.setPc v).p = s.p := rfl
@[simp] theorem State.setPc_cfg (s : State) (v : Word) : (s.setPc v).cfg = s.cfg := rfl
@[simp] theorem State.setPc_irqReq (s : State) (v : Word) : (s.setPc v).irqReq = s.irqReq := rfl
@[simp] theorem State.setPc_halted (s : State) (v : Word) : (s.setPc v).halted = s.halted := rfl
@[simp] theorem State.setPc_cyc (s : State) (v : Word) : (s.setPc v).cyc = s.cyc := rfl
@[simp] theorem State.setPc_mem (s : State) (v : Word) : (s.setPc v).mem = s.mem := rfl
@[simp] theorem State.setPc_draws (s : State) (v : Word) : (s.setPc v).draws = s.draws := rfl

@[simp] theorem State.setP_a (s : State) (v : Flags) : (s.setP v).a = s.a := rfl
@[simp] theorem State.setP_x (s : State) (v : Flags) : (s.setP v).x = s.x := rfl
@[simp] theorem State.setP_y (s : State) (v : Flags) : (s.setP v).y = s.y := rfl
@[simp] theorem State.setP_sp (s : State) (v : Flags) : (s.setP v).sp = s.sp := rfl
@[simp] theorem State.setP_pc (s : State) (v : Flags) : (s.setP v).pc = s.pc := rfl
@[simp] theorem State.setP_p (s : State) (v : Flags) : (s.setP v).p = v := rfl
@[simp] theorem State.setP_cfg (s : State) (v : Flags) : (s.setP v).cfg = s.cfg := rfl
@[simp] theorem State.setP_irqReq (s : State) (v : Flags) : (s.setP v).irqReq = s.irqReq := rfl
@[simp] theorem State.setP_halted (s : State) (v : Flags) : (s.setP v).halted = s.halted := rfl
@[simp] theorem State.setP_cyc (s : State) (v : Flags) : (s.setP v).cyc = s.cyc := rfl
@[simp] theorem State.setP_mem (s : State) (v : Flags) : (s.setP v).mem = s.mem := rfl
@[simp] theorem State.setP_draws (s : State) (v : Flags) : (s.setP v).draws = s.draws := rfl

@[simp] theorem State.setCfg_a (s : State) (v : HwConfig) : (s.setCfg v).a = s.a := rfl
@[simp] theorem State.setCfg_x (s : State) (v : HwConfig) : (s.setCfg v).x = s.x := rfl
@[simp] theorem State.setCfg_y (s : State) (v : HwConfig) : (s.setCfg v).y = s.y := rfl
@[simp] theorem State.setCfg_sp (s : State) (v : HwConfig) : (s.setCfg v).sp = s.sp := rfl
@[simp] theorem State.setCfg_pc (s : State) (v : HwConfig) : (s.setCfg v).pc = s.pc := rfl
@[simp] theorem State.setCfg_p (s : State) (v : HwConfig) : (s.setCfg v).p = s.p := rfl
@[simp] theorem State.setCfg_cfg (s : State) (v : HwConfig) : (s.setCfg v).cfg = v := rfl
@[simp] theorem State.setCfg_irqReq (s : State) (v : HwConfig) : (s.setCfg v).irqReq = s.irqReq := rfl
@[simp] theorem State.setCfg_halted (s : State) (v : HwConfig) : (s.setCfg v).halted = s.halted := rfl
@[simp] theorem State.setCfg_cyc (s : State) (v : HwConfig) : (s.setCfg v).cyc = s.cyc := rfl
@[simp] theorem State.setCfg_mem (s : State) (v : HwConfig) : (s.setCfg v).mem = s.mem := rfl
@[simp] theorem State.setCfg_draws (s : State) (v : HwConfig) : (s.setCfg v).draws = s.draws := rfl

@[simp] theorem State.setIrqReq_a (s : State) (v : Option Request) : (s.setIrqReq v).a = s.a := rfl
@[simp] theorem State.setIrqReq_x (s : State) (v : Option Request) : (s.setIrqReq v).x = s.x := rfl
@[simp] theorem State.setIrqReq_y (s : State) (v : Option Request) : (s.setIrqReq v).y = s.y := rfl
@[simp] theorem State.setIrqReq_sp (s : State) (v : Option Request) : (s.setIrqReq v).sp = s.sp := rfl
@[simp] theorem State.setIrqReq_pc (s : State) (v : Option Request) : (s.setIrqReq v).pc = s.pc := rfl
@[simp] theorem State.setIrqReq_p (s : State) (v : Option Request) : (s.setIrqReq v).p = s.p := rfl
@[simp] theorem State.setIrqReq_cfg (s : State) (v : Option Request) : (s.setIrqReq v).cfg = s.cfg := rfl
@[simp] theorem State.setIrqReq_irqReq (s : State) (v : Option Request) : (s.setIrqReq v).irqReq = v := rfl
@[simp] theorem State.setIrqReq_halted (s : State) (v : Option Request) : (s.setIrqReq v).halted = s.halted := rfl
@[simp] theorem State.setIrqReq_cyc (s : State) (v : Option Request) : (s.setIrqReq v).cyc = s.cyc := rfl
@[simp] theorem State.setIrqReq_mem (s : State) (v : Option Request) : (s.setIrqReq v).mem = s.mem := rfl
@[simp] theorem State.setIrqReq_draws (s : State) (v : Option Request) : (s.setIrqReq v).draws = s.draws := rfl

@[simp] theorem State.setHalted_a (s : State) (v : Bool) : (s.setHalted v).a = s.a := rfl
@[simp] theorem State.setHalted_x (s : State) (v : Bool) : (s.setHalted v).x = s.x := rfl
@[simp] theorem State.setHalted_y (s : State) (v : Bool) : (s.setHalted v).y = s.y := rfl
@[simp] theorem State.setHalted_sp (s : State) (v : Bool) : (s.setHalted v).sp = s.sp := rfl
@[simp] theorem State.setHalted_pc (s : State) (v : Bool) : (s.setHalted v).pc = s.pc := rfl
@[simp] theorem State.setHalted_p (s : State) (v : Bool) : (s.setHalted v).p = s.p := rfl
@[simp] theorem State.setHalted_cfg (s : State) (v : Bool) : (s.setHalted v).cfg = s.cfg := rfl
@[simp] theorem State.setHalted_irqReq (s : State) (v : Bool) : (s.setHalted v).irqReq = s.irqReq := rfl
@[simp] theorem State.setHalted_halted (s : State) (v : Bool) : (s.setHalted v).halted = v := rfl
@[simp] theorem State.setHalted_cyc (s : State) (v : Bool) : (s.setHalted v).cyc = s.cyc := rfl
@[simp] theorem State.setHalted_mem (s : State) (v : Bool) : (s.setHalted v).mem = s.mem := rfl
@[simp] theorem State.setHalted_draws (s : State) (v : Bool) : (s.setHalted v).draws = s.draws := rfl

@[simp] theorem State.setCyc_a (s : State) (v : Nat) : (s.setCyc v).a = s.a := rfl
@[simp] theorem State.setCyc_x (s : State) (v : Nat) : (s.setCyc v).x = s.x := rfl
@[simp] theorem State.setCyc_y (s : State) (v : Nat) : (s.setCyc v).y = s.y := rfl
@[simp] theorem State.setCyc_sp (s : State) (v : Nat) : (s.setCyc v).sp = s.sp := rfl
@[simp] theorem State.setCyc_pc (s : State) (v : Nat) : (s.setCyc v).pc = s.pc := rfl
@[simp] theorem State.setCyc_p (s : State) (v : Nat) : (s.setCyc v).p = s.p := rfl
@[simp] theorem State.setCyc_cfg (s : State) (v : Nat) : (s.setCyc v).cfg = s.cfg := rfl
@[simp] theorem State.setCyc_irqReq (s : State) (v : Nat) : (s.setCyc v).irqReq = s.irqReq := rfl
@[simp] theorem State.setCyc_halted (s : State) (v : Nat) : (s.setCyc v).halted = s.halted := rfl
@[simp] theorem State.setCyc_cyc (s : State) (v : Nat) : (s.setCyc v).cyc = v := rfl
@[simp] theorem State.setCyc_mem (s : State) (v : Nat) : (s.setCyc v).mem = s.mem := rfl
@[simp] theorem State.setCyc_draws (s : State) (v : Nat) : (s.setCyc v).draws = s.draws := rfl

@[simp] theorem State.setMem_a (s : State) (v : Memory) : (s.setMem v).a = s.a := rfl
@[simp] theorem State.setMem_x (s : State) (v : Memory) : (s.setMem v).x = s.x := rfl
@[simp] theorem State.setMem_y (s : State) (v : Memory) : (s.setMem v).y = s.y := rfl
@[simp] theorem State.setMem_sp (s : State) (v : Memory) : (s.setMem v).sp = s.sp := rfl
@[simp] theorem State.setMem_pc (s : State) (v : Memory) : (s.setMem v).pc = s.pc := rfl
@[simp] theorem State.setMem_p (s : State) (v : Memory) : (s.setMem v).p = s.p := rfl
@[simp] theorem State.setMem_cfg (s : State) (v : Memory) : (s.setMem v).cfg = s.cfg := rfl
@[simp] theorem State.setMem_irqReq (s : State) (v : Memory) : (s.setMem v).irqReq = s.irqReq := rfl
@[simp] theorem State.setMem_halted (s : State) (v : Memory) : (s.setMem v).halted = s.halted := rfl
@[simp] theorem State.setMem_cyc (s : State) (v : Memory) : (s.setMem v).cyc = s.cyc := rfl
@[simp] theorem State.setMem_mem (s : State) (v : Memory) : (s.setMem v).mem = v := rfl
@[simp] theorem State.setMem_draws (s : State) (v : Memory) : (s.setMem v).draws = s.draws := rfl

@[simp] theorem State.setDraws_a (s : State) (v : Nat) : (s.setDraws v).a = s.a := rfl
@[simp] theorem State.setDraws_x (s : State) (v : Nat) : (s.setDraws v).x = s.x := rfl
@[simp] theorem State.setDraws_y (s : State) (v : Nat) : (s.setDraws v).y = s.y := rfl
@[simp] theorem State.setDraws_sp (s : State) (v : Nat) : (s.setDraws v).sp = s.sp := rfl
@[simp] theorem State.setDraws_pc (s : State) (v : Nat) : (s.setDraws v).pc = s.pc := rfl
@[simp] theorem State.setDraws_p (s : State) (v : Nat) : (s.setDraws v).p = s.p := rfl
@[simp] theorem State.setDraws_cfg (s : State) (v : Nat) : (s.setDraws v).cfg = s.cfg := rfl
@[simp] theorem State.setDraws_irqReq (s : State) (v : Nat) : (s.setDraws v).irqReq = s.irqReq := rfl
@[simp] theorem State.setDraws_halted (s : State) (v : Nat) : (s.setDraws v).halted = s.halted := rfl
@[simp] theorem State.setDraws_cyc (s : State) (v : Nat) : (s.setDraws v).cyc = s.cyc := rfl
@[simp] theorem State.setDraws_mem (s : State) (v : Nat) : (s.setDraws v).mem = s.mem := rfl
@[simp] theorem State.setDraws_draws (s : State) (v : Nat) : (s.setDraws v).draws = v := rfl

@[simp] theorem State.withZN_a (s : State) (v : Byte) : (s.withZN v).a = s.a := rfl
@[simp] theorem State.withZN_x (s : State) (v : Byte) : (s.withZN v).x = s.x := rfl
@[simp] theorem State.withZN_y (s : State) (v : Byte) : (s.withZN v).y = s.y := rfl
@[simp] theorem State.withZN_sp (s : State) (v : Byte) : (s.withZN v).sp = s.sp := rfl
@[simp] theorem State.withZN_pc (s : State) (v : Byte) : (s.withZN v).pc = s.pc := rfl
@[simp] theorem State.withZN_p (s : State) (v : Byte) : (s.withZN v).p = s.p.withZN v := rfl
@[simp] theorem State.withZN_cfg (s : State) (v : Byte) : (s.withZN v).cfg = s.cfg := rfl
@[simp] theorem State.withZN_irqReq (s : State) (v : Byte) : (s.withZN v).irqReq = s.irqReq := rfl
@[simp] theorem State.withZN_halted (s : State) (v : Byte) : (s.withZN v).halted = s.halted := rfl
@[simp] theorem State.withZN_cyc (s : State) (v : Byte) : (s.withZN v).cyc = s.cyc := rfl
@[simp] theorem State.withZN_mem (s : State) (v : Byte) : (s.withZN v).mem = s.mem := rfl
@[simp] theorem State.withZN_draws (s : State) (v : Byte) : (s.withZN v).draws = s.draws := rfl

@[simp] theorem State.advance_a (s : State) (n : Nat) : (s.advance n).a = s.a := rfl
@[simp] theorem State.advance_x (s : State) (n : Nat) : (s.advance n).x = s.x := rfl
@[simp] theorem State.advance_y (s : State) (n : Nat) : (s.advance n).y = s.y := rfl
@[simp] theorem State.advance_sp (s : State) (n : Nat) : (s.advance n).sp = s.sp := rfl
@[simp] theorem State.advance_pc (s : State) (n : Nat) : (s.advance n).pc = s.pc + BitVec.ofNat 16 n := rfl
@[simp] theorem State.advance_p (s : State) (n : Nat) : (s.advance n).p = s.p := rfl
@[simp] theorem State.advance_cfg (s : State) (n : Nat) : (s.advance n).cfg = s.cfg := rfl
@[simp] theorem State.advance_irqReq (s : State) (n : Nat) : (s.advance n).irqReq = s.irqReq := rfl
@[simp] theorem State.advance_halted (s : State) (n : Nat) : (s.advance n).halted = s.halted := rfl
@[simp] theorem State.advance_cyc (s : State) (n : Nat) : (s.advance n).cyc = s.cyc := rfl
@[simp] theorem State.advance_mem (s : State) (n : Nat) : (s.advance n).mem = s.mem := rfl
@[simp] theorem State.advance_draws (s : State) (n : Nat) : (s.advance n).draws = s.draws := rfl

@[simp] theorem State.popped8_a (s : State) : (s.popped8).a = s.a := rfl
@[simp] theorem State.popped8_x (s : State) : (s.popped8).x = s.x := rfl
@[simp] theorem State.popped8_y (s : State) : (s.popped8).y = s.y := rfl
@[simp] theorem State.popped8_sp (s : State) : (s.popped8).sp = s.sp + 1 := rfl
@[simp] theorem State.popped8_pc (s : State) : (s.popped8).pc = s.pc := rfl
@[simp] theorem State.popped8_p (s : State) : (s.popped8).p = s.p := rfl
@[simp] theorem State.popped8_cfg (s : State) : (s.popped8).cfg = s.cfg := rfl
@[simp] theorem State.popped8_irqReq (s : State) : (s.popped8).irqReq = s.irqReq := rfl
@[simp] theorem State.popped8_halted (s : State) : (s.popped8).halted = s.halted := rfl
@[simp] theorem State.popped8_cyc (s : State) : (s.popped8).cyc = s.cyc := rfl
@[simp] theorem State.popped8_mem (s : State) : (s.popped8).mem = s.mem := rfl
@[simp] theorem State.popped8_draws (s : State) : (s.popped8).draws = s.draws := rfl

@[simp] theorem State.popped16_a (s : State) : (s.popped16).a = s.a := rfl
@[simp] theorem State.popped16_x (s : State) : (s.popped16).x = s.x := rfl
@[simp] theorem State.popped16_y (s : State) : (s.popped16).y = s.y := rfl
@[simp] theorem State.popped16_sp (s : State) : (s.popped16).sp = s.sp + 1 + 1 := rfl
@[simp] theorem State.popped16_pc (s : State) : (s.popped16).pc = s.pc := rfl
@[simp] theorem State.popped16_p (s : State) : (s.popped16).p = s.p := rfl
@[simp] theorem State.popped16_cfg (s : State) : (s.popped16).cfg = s.cfg := rfl
@[simp] theorem State.popped16_irqReq (s : State) : (s.popped16).irqReq = s.irqReq := rfl
@[simp] theorem State.popped16_halted (s : State) : (s.popped16).halted = s.halted := rfl
@[simp] theorem State.popped16_cyc (s : State) : (s.popped16).cyc = s.cyc := rfl
@[simp] theorem State.popped16_mem (s : State) : (s.popped16).mem = s.mem := rfl
@[simp] theorem State.popped16_draws (s : State) : (s.popped16).draws = s.draws := rfl

end Sys2Proof.Machine
end

