-- ==== Sys2Proof/Laws/Ops.lean ====
section
/-! SUPPORT. One lemma per shared operation that says what it does: memory access, the stack, requests, service, Reset. -/

namespace Sys2Proof.Machine

/-! ### Memory access -/

@[simp] theorem State.memWrite_a (s : State) (w : Word) (v : Byte) : (s.memWrite w v).a = s.a := by
  unfold State.memWrite; split <;> rfl
@[simp] theorem State.memWrite_x (s : State) (w : Word) (v : Byte) : (s.memWrite w v).x = s.x := by
  unfold State.memWrite; split <;> rfl
@[simp] theorem State.memWrite_y (s : State) (w : Word) (v : Byte) : (s.memWrite w v).y = s.y := by
  unfold State.memWrite; split <;> rfl
@[simp] theorem State.memWrite_sp (s : State) (w : Word) (v : Byte) : (s.memWrite w v).sp = s.sp := by
  unfold State.memWrite; split <;> rfl
@[simp] theorem State.memWrite_pc (s : State) (w : Word) (v : Byte) : (s.memWrite w v).pc = s.pc := by
  unfold State.memWrite; split <;> rfl
@[simp] theorem State.memWrite_p (s : State) (w : Word) (v : Byte) : (s.memWrite w v).p = s.p := by
  unfold State.memWrite; split <;> rfl
@[simp] theorem State.memWrite_cfg (s : State) (w : Word) (v : Byte) : (s.memWrite w v).cfg = s.cfg := by
  unfold State.memWrite; split <;> rfl
@[simp] theorem State.memWrite_irqReq (s : State) (w : Word) (v : Byte) : (s.memWrite w v).irqReq = s.irqReq := by
  unfold State.memWrite; split <;> rfl
@[simp] theorem State.memWrite_halted (s : State) (w : Word) (v : Byte) : (s.memWrite w v).halted = s.halted := by
  unfold State.memWrite; split <;> rfl
@[simp] theorem State.memWrite_cyc (s : State) (w : Word) (v : Byte) : (s.memWrite w v).cyc = s.cyc := by
  unfold State.memWrite; split <;> rfl
@[simp] theorem State.memWrite_draws (s : State) (w : Word) (v : Byte) : (s.memWrite w v).draws = s.draws := by
  unfold State.memWrite; split <;> rfl

/-- Reading one byte depends on the memory array and on MEM_SIZE alone (R51). -/
theorem State.memRead_congr {s t : State} (hm : t.mem = s.mem) (hc : t.cfg = s.cfg) (w : Word) :
    t.memRead w = s.memRead w := by
  simp [State.memRead, State.backed, hm, hc]

theorem State.memRead16_congr {s t : State} (hm : t.mem = s.mem) (hc : t.cfg = s.cfg) (w : Word) :
    t.memRead16 w = s.memRead16 w := by
  simp [State.memRead16, State.memRead_congr hm hc]

theorem State.backed_congr {s t : State} (hc : t.cfg = s.cfg) (w : Word) : t.backed w = s.backed w := by
  simp [State.backed, hc]

@[simp] theorem State.backed_memWrite (s : State) (w w' : Word) (v : Byte) : (s.memWrite w v).backed w' = s.backed w' :=
  State.backed_congr (s.memWrite_cfg w v) w'

/-- A read after a write to the same backed address gives the byte written; an unbacked address reads 0 (R51, R52). -/
@[simp] theorem State.memRead_memWrite_same (s : State) (w : Word) (v : Byte) :
    (s.memWrite w v).memRead w = if s.backed w then v else 0 := by
  by_cases h : s.backed w
  · have hb : (s.setMem (s.mem.set w.toNat v)).backed w = true := h
    simp [State.memWrite, State.memRead, h, hb]
  · simp [State.memWrite, State.memRead, h]

/-- A write leaves every other address alone. -/
theorem State.memRead_memWrite_other (s : State) {w w' : Word} (v : Byte) (h : w' ≠ w) :
    (s.memWrite w v).memRead w' = s.memRead w' := by
  have hn : w'.toNat ≠ w.toNat := fun e => h (BitVec.eq_of_toNat_eq e)
  by_cases hb : s.backed w
  · have hb' : (s.setMem (s.mem.set w.toNat v)).backed w' = s.backed w' := rfl
    simp [State.memWrite, State.memRead, hb, hb', Memory.get_set_other _ _ hn]
  · simp [State.memWrite, hb]

/-- A write and a change of S commute. -/
theorem State.memWrite_setSp (s : State) (o : Byte) (w : Word) (v : Byte) :
    (s.setSp o).memWrite w v = (s.memWrite w v).setSp o := by
  have hb : (s.setSp o).backed w = s.backed w := rfl
  cases h : s.backed w
  · simp [State.memWrite, hb, h]
  · simp [State.memWrite, hb, h]
    rfl

@[simp] theorem State.memRead_setA (s : State) (v : Byte) (w : Word) : (s.setA v).memRead w = s.memRead w := rfl
@[simp] theorem State.memRead_setX (s : State) (v : Byte) (w : Word) : (s.setX v).memRead w = s.memRead w := rfl
@[simp] theorem State.memRead_setY (s : State) (v : Byte) (w : Word) : (s.setY v).memRead w = s.memRead w := rfl
@[simp] theorem State.memRead_setSp (s : State) (v : Byte) (w : Word) : (s.setSp v).memRead w = s.memRead w := rfl
@[simp] theorem State.memRead_setPc (s : State) (v : Word) (w : Word) : (s.setPc v).memRead w = s.memRead w := rfl
@[simp] theorem State.memRead_setP (s : State) (v : Flags) (w : Word) : (s.setP v).memRead w = s.memRead w := rfl
@[simp] theorem State.memRead_setIrqReq (s : State) (v : Option Request) (w : Word) :
    (s.setIrqReq v).memRead w = s.memRead w := rfl
@[simp] theorem State.memRead_setHalted (s : State) (v : Bool) (w : Word) : (s.setHalted v).memRead w = s.memRead w := rfl
@[simp] theorem State.memRead_setCyc (s : State) (v : Nat) (w : Word) : (s.setCyc v).memRead w = s.memRead w := rfl
@[simp] theorem State.memRead_setDraws (s : State) (v : Nat) (w : Word) : (s.setDraws v).memRead w = s.memRead w := rfl
@[simp] theorem State.memRead_withZN (s : State) (v : Byte) (w : Word) : (s.withZN v).memRead w = s.memRead w := rfl
@[simp] theorem State.memRead_advance (s : State) (n : Nat) (w : Word) : (s.advance n).memRead w = s.memRead w := rfl
@[simp] theorem State.memRead_popped8 (s : State) (w : Word) : s.popped8.memRead w = s.memRead w := rfl
@[simp] theorem State.memRead_popped16 (s : State) (w : Word) : s.popped16.memRead w = s.memRead w := rfl

/-! ### Byte order -/

theorem leWord_toNat (lo hi : Byte) : (leWord lo hi).toNat = hi.toNat * 256 + lo.toNat := by
  have := lo.isLt
  simp only [leWord, BitVec.toNat_append]
  rw [← Nat.shiftLeft_add_eq_or_of_lt (by omega), Nat.shiftLeft_eq]

theorem loByte_toNat (w : Word) : (loByte w).toNat = w.toNat % 256 := by
  simp [loByte]

theorem hiByte_toNat (w : Word) : (hiByte w).toNat = w.toNat / 256 := by
  have := w.isLt
  simp only [hiByte, BitVec.extractLsb'_toNat, Nat.shiftRight_eq_div_pow]
  omega

@[simp] theorem loByte_leWord (lo hi : Byte) : loByte (leWord lo hi) = lo := by
  apply BitVec.eq_of_toNat_eq
  have := lo.isLt
  rw [loByte_toNat, leWord_toNat]
  omega

@[simp] theorem hiByte_leWord (lo hi : Byte) : hiByte (leWord lo hi) = hi := by
  apply BitVec.eq_of_toNat_eq
  have := lo.isLt
  rw [hiByte_toNat, leWord_toNat]
  omega

@[simp] theorem leWord_loByte_hiByte (w : Word) : leWord (loByte w) (hiByte w) = w := by
  apply BitVec.eq_of_toNat_eq
  rw [leWord_toNat, loByte_toNat, hiByte_toNat]
  omega

/-! ### The stack -/

@[simp] theorem State.push8_a (s : State) (v : Byte) : (s.push8 v).a = s.a := by simp [State.push8]
@[simp] theorem State.push8_x (s : State) (v : Byte) : (s.push8 v).x = s.x := by simp [State.push8]
@[simp] theorem State.push8_y (s : State) (v : Byte) : (s.push8 v).y = s.y := by simp [State.push8]
@[simp] theorem State.push8_sp (s : State) (v : Byte) : (s.push8 v).sp = s.sp - 1 := by simp [State.push8]
@[simp] theorem State.push8_pc (s : State) (v : Byte) : (s.push8 v).pc = s.pc := by simp [State.push8]
@[simp] theorem State.push8_p (s : State) (v : Byte) : (s.push8 v).p = s.p := by simp [State.push8]
@[simp] theorem State.push8_cfg (s : State) (v : Byte) : (s.push8 v).cfg = s.cfg := by simp [State.push8]
@[simp] theorem State.push8_irqReq (s : State) (v : Byte) : (s.push8 v).irqReq = s.irqReq := by simp [State.push8]
@[simp] theorem State.push8_halted (s : State) (v : Byte) : (s.push8 v).halted = s.halted := by simp [State.push8]
@[simp] theorem State.push8_cyc (s : State) (v : Byte) : (s.push8 v).cyc = s.cyc := by simp [State.push8]
@[simp] theorem State.push8_draws (s : State) (v : Byte) : (s.push8 v).draws = s.draws := by simp [State.push8]
@[simp] theorem State.push8_mem (s : State) (v : Byte) :
    (s.push8 v).mem = (s.memWrite (stackAddr s.cfg.stackPage s.sp) v).mem := by simp [State.push8]

/-- What a push leaves in memory: the byte at the stack address of the old S (R61). -/
theorem State.memRead_push8 (s : State) (v : Byte) (w : Word) :
    (s.push8 v).memRead w = (s.memWrite (stackAddr s.cfg.stackPage s.sp) v).memRead w := rfl

theorem stackAddr_inj {page o o' : Byte} (h : stackAddr page o = stackAddr page o') : o = o' := by
  have := congrArg loByte h
  simpa [stackAddr] using this

/-! ### Requests, service, Reset -/

/-- A request touches the slot and nothing else (R248). -/
theorem State.request_eq (s : State) (k : IrqKind) : ∃ r, s.request k = s.setIrqReq r := by
  unfold State.request
  split
  · exact ⟨_, rfl⟩
  · split
    · exact ⟨_, rfl⟩
    · exact ⟨s.irqReq, rfl⟩

@[simp] theorem State.request_a (s : State) (k : IrqKind) : (s.request k).a = s.a := by
  obtain ⟨r, h⟩ := s.request_eq k; simp [h]
@[simp] theorem State.request_x (s : State) (k : IrqKind) : (s.request k).x = s.x := by
  obtain ⟨r, h⟩ := s.request_eq k; simp [h]
@[simp] theorem State.request_y (s : State) (k : IrqKind) : (s.request k).y = s.y := by
  obtain ⟨r, h⟩ := s.request_eq k; simp [h]
@[simp] theorem State.request_sp (s : State) (k : IrqKind) : (s.request k).sp = s.sp := by
  obtain ⟨r, h⟩ := s.request_eq k; simp [h]
@[simp] theorem State.request_pc (s : State) (k : IrqKind) : (s.request k).pc = s.pc := by
  obtain ⟨r, h⟩ := s.request_eq k; simp [h]
@[simp] theorem State.request_p (s : State) (k : IrqKind) : (s.request k).p = s.p := by
  obtain ⟨r, h⟩ := s.request_eq k; simp [h]
@[simp] theorem State.request_cfg (s : State) (k : IrqKind) : (s.request k).cfg = s.cfg := by
  obtain ⟨r, h⟩ := s.request_eq k; simp [h]
@[simp] theorem State.request_halted (s : State) (k : IrqKind) : (s.request k).halted = s.halted := by
  obtain ⟨r, h⟩ := s.request_eq k; simp [h]
@[simp] theorem State.request_cyc (s : State) (k : IrqKind) : (s.request k).cyc = s.cyc := by
  obtain ⟨r, h⟩ := s.request_eq k; simp [h]
@[simp] theorem State.request_mem (s : State) (k : IrqKind) : (s.request k).mem = s.mem := by
  obtain ⟨r, h⟩ := s.request_eq k; simp [h]
@[simp] theorem State.request_draws (s : State) (k : IrqKind) : (s.request k).draws = s.draws := by
  obtain ⟨r, h⟩ := s.request_eq k; simp [h]

/-- `Request` is idempotent: a second request of one kind changes nothing (R248). -/
theorem State.request_idem (s : State) (k : IrqKind) : (s.request k).request k = s.request k := by
  cases h : s.irqReq with
  | none => simp [State.request, h]
  | some r =>
    by_cases hr : r.kind.rank < k.rank
    · simp [State.request, h, hr]
    · simp [State.request, h, hr]

/-- Every field entry leaves alone (R251). -/
theorem service_keeps (r : Request) (s : State) :
    (service r s).a = s.a ∧ (service r s).x = s.x ∧ (service r s).y = s.y ∧ (service r s).cfg = s.cfg ∧
    (service r s).halted = s.halted ∧ (service r s).draws = s.draws := by
  simp [service, State.push16]

/-- Reset leaves memory alone (R281). -/
@[simp] theorem State.resetOp_mem (s : State) : s.resetOp.mem = s.mem := rfl
@[simp] theorem State.resetOp_cfg (s : State) : s.resetOp.cfg = s.cfg := rfl

end Sys2Proof.Machine
end

