-- ==== Sys2Proof/Laws/Inv.lean ====
section
/-! SUPPORT. Every shared operation keeps the invariant of Safety.lean. -/

namespace Sys2Proof.Machine

/-- The invariant depends on the configuration, memory and the halted latch alone. -/
theorem State.Inv.congr {s t : State} (h : s.Inv) (hc : t.cfg = s.cfg) (hm : t.mem = s.mem) (hh : t.halted = s.halted) :
    t.Inv := by
  simpa [State.Inv, hc, hm, hh] using h

theorem State.Inv.memWrite {s : State} (h : s.Inv) (w : Word) (v : Byte) : (s.memWrite w v).Inv := by
  by_cases hb : s.backed w
  · have hlt : w.toNat < s.cfg.memSize := by simpa [State.backed] using hb
    simp only [State.memWrite, hb, if_true]
    refine ⟨h.1, Memory.set_wf v h.2.1 w.isLt, ?_, h.2.2.2⟩
    intro c hc
    rcases Memory.mem_set hc with ⟨rfl, _⟩ | hc
    · exact hlt
    · exact h.2.2.1 c hc
  · simpa [State.memWrite, hb] using h

theorem State.Inv.push8 {s : State} (h : s.Inv) (v : Byte) : (s.push8 v).Inv :=
  (h.memWrite (stackAddr s.cfg.stackPage s.sp) v).congr rfl rfl rfl

theorem State.Inv.push16 {s : State} (h : s.Inv) (v : Word) : (s.push16 v).Inv := (h.push8 _).push8 _

theorem State.Inv.request {s : State} (h : s.Inv) (k : IrqKind) : (s.request k).Inv :=
  h.congr (by simp) (by simp) (by simp)

theorem State.Inv.service {s : State} (h : s.Inv) (r : Request) : (service r s).Inv :=
  ((h.push16 s.pc).push8 (s.p.toByte (decide (r.kind = .brk)))).congr
    (by simp [Machine.service]) (by simp [Machine.service]) (by simp [Machine.service])

theorem State.Inv.resetOp {s : State} (h : s.Inv) : s.resetOp.Inv :=
  ⟨h.1, h.2.1, h.2.2.1, fun e => by cases e⟩

theorem State.Inv.loadBytes {s : State} (h : s.Inv) (w : Word) (bs : List Byte) : (s.loadBytes w bs).Inv := by
  induction bs generalizing s w with
  | nil => exact h
  | cons b rest ih => exact ih (h.memWrite w b) (w + 1)

end Sys2Proof.Machine
end

