-- ==== Sys2Proof/Laws/PerInstr.lean ====
section
/-! SUPPORT. The statement made per instruction: an instruction's encoding has the length of its format and its line is
well formed; one lemma per constructor. -/

namespace Sys2Proof.Laws.EncodedLength

/-- The encoding has the length R81 gives the format, between 1 and 3 bytes (R80), and (mnemonic, format, operand) is a
well-formed line (R84, R86). -/
def Statement (i : Instr) : Prop :=
  (encode i).length = i.length ∧ 1 ≤ i.length ∧ i.length ≤ 3 ∧ i.wf = true

theorem of_one {i : Instr} (he : (encode i).length = 1) (hl : i.length = 1) (hw : i.wf = true) : Statement i := by
  refine ⟨by rw [he, hl], ?_, ?_, hw⟩ <;> omega

theorem of_two {i : Instr} (he : (encode i).length = 2) (hl : i.length = 2) (hw : i.wf = true) : Statement i := by
  refine ⟨by rw [he, hl], ?_, ?_, hw⟩ <;> omega

theorem of_three {i : Instr} (he : (encode i).length = 3) (hl : i.length = 3) (hw : i.wf = true) : Statement i := by
  refine ⟨by rw [he, hl], ?_, ?_, hw⟩ <;> omega

theorem fits_byte (m : Mnemonic) (f : Format) (b : Byte) (hp : m.formats.contains f = true) (hf : f.operandBytes = 1) :
    (Line.mk m f b.toNat).wf = true := by
  have := b.isLt
  simp [Line.wf, Line.pairLegal, Line.operandFits, hf, List.contains_iff_mem.mp hp]
  omega

theorem fits_word (m : Mnemonic) (f : Format) (w : Word) (hp : m.formats.contains f = true) (hf : f.operandBytes = 2) :
    (Line.mk m f w.toNat).wf = true := by
  have := w.isLt
  simp [Line.wf, Line.pairLegal, Line.operandFits, hf, List.contains_iff_mem.mp hp]
  omega

theorem ldaImm (v : Byte) : Statement (.ldaImm v) := of_two rfl rfl (fits_byte _ _ v rfl rfl)
theorem ldaZp (zp : Byte) : Statement (.ldaZp zp) := of_two rfl rfl (fits_byte _ _ zp rfl rfl)
theorem ldaZpx (zp : Byte) : Statement (.ldaZpx zp) := of_two rfl rfl (fits_byte _ _ zp rfl rfl)
theorem ldaAbs (w : Word) : Statement (.ldaAbs w) := of_three rfl rfl (fits_word _ _ w rfl rfl)
theorem ldaAbx (w : Word) : Statement (.ldaAbx w) := of_three rfl rfl (fits_word _ _ w rfl rfl)
theorem ldaAby (w : Word) : Statement (.ldaAby w) := of_three rfl rfl (fits_word _ _ w rfl rfl)
theorem ldaIzx (zp : Byte) : Statement (.ldaIzx zp) := of_two rfl rfl (fits_byte _ _ zp rfl rfl)
theorem ldaIzy (zp : Byte) : Statement (.ldaIzy zp) := of_two rfl rfl (fits_byte _ _ zp rfl rfl)
theorem ldxImm (v : Byte) : Statement (.ldxImm v) := of_two rfl rfl (fits_byte _ _ v rfl rfl)
theorem ldxZp (zp : Byte) : Statement (.ldxZp zp) := of_two rfl rfl (fits_byte _ _ zp rfl rfl)
theorem ldxZpy (zp : Byte) : Statement (.ldxZpy zp) := of_two rfl rfl (fits_byte _ _ zp rfl rfl)
theorem ldxAbs (w : Word) : Statement (.ldxAbs w) := of_three rfl rfl (fits_word _ _ w rfl rfl)
theorem ldxAby (w : Word) : Statement (.ldxAby w) := of_three rfl rfl (fits_word _ _ w rfl rfl)
theorem ldyImm (v : Byte) : Statement (.ldyImm v) := of_two rfl rfl (fits_byte _ _ v rfl rfl)
theorem ldyZp (zp : Byte) : Statement (.ldyZp zp) := of_two rfl rfl (fits_byte _ _ zp rfl rfl)
theorem ldyZpx (zp : Byte) : Statement (.ldyZpx zp) := of_two rfl rfl (fits_byte _ _ zp rfl rfl)
theorem ldyAbs (w : Word) : Statement (.ldyAbs w) := of_three rfl rfl (fits_word _ _ w rfl rfl)
theorem ldyAbx (w : Word) : Statement (.ldyAbx w) := of_three rfl rfl (fits_word _ _ w rfl rfl)
theorem staZp (zp : Byte) : Statement (.staZp zp) := of_two rfl rfl (fits_byte _ _ zp rfl rfl)
theorem staZpx (zp : Byte) : Statement (.staZpx zp) := of_two rfl rfl (fits_byte _ _ zp rfl rfl)
theorem staAbs (w : Word) : Statement (.staAbs w) := of_three rfl rfl (fits_word _ _ w rfl rfl)
theorem staAbx (w : Word) : Statement (.staAbx w) := of_three rfl rfl (fits_word _ _ w rfl rfl)
theorem staAby (w : Word) : Statement (.staAby w) := of_three rfl rfl (fits_word _ _ w rfl rfl)
theorem staIzx (zp : Byte) : Statement (.staIzx zp) := of_two rfl rfl (fits_byte _ _ zp rfl rfl)
theorem staIzy (zp : Byte) : Statement (.staIzy zp) := of_two rfl rfl (fits_byte _ _ zp rfl rfl)
theorem stxZp (zp : Byte) : Statement (.stxZp zp) := of_two rfl rfl (fits_byte _ _ zp rfl rfl)
theorem stxZpy (zp : Byte) : Statement (.stxZpy zp) := of_two rfl rfl (fits_byte _ _ zp rfl rfl)
theorem stxAbs (w : Word) : Statement (.stxAbs w) := of_three rfl rfl (fits_word _ _ w rfl rfl)
theorem styZp (zp : Byte) : Statement (.styZp zp) := of_two rfl rfl (fits_byte _ _ zp rfl rfl)
theorem styZpx (zp : Byte) : Statement (.styZpx zp) := of_two rfl rfl (fits_byte _ _ zp rfl rfl)
theorem styAbs (w : Word) : Statement (.styAbs w) := of_three rfl rfl (fits_word _ _ w rfl rfl)
theorem tax : Statement .tax := of_one rfl rfl rfl
theorem tay : Statement .tay := of_one rfl rfl rfl
theorem txa : Statement .txa := of_one rfl rfl rfl
theorem tya : Statement .tya := of_one rfl rfl rfl
theorem tsx : Statement .tsx := of_one rfl rfl rfl
theorem txs : Statement .txs := of_one rfl rfl rfl
theorem andImm (v : Byte) : Statement (.andImm v) := of_two rfl rfl (fits_byte _ _ v rfl rfl)
theorem andZp (zp : Byte) : Statement (.andZp zp) := of_two rfl rfl (fits_byte _ _ zp rfl rfl)
theorem andZpx (zp : Byte) : Statement (.andZpx zp) := of_two rfl rfl (fits_byte _ _ zp rfl rfl)
theorem andAbs (w : Word) : Statement (.andAbs w) := of_three rfl rfl (fits_word _ _ w rfl rfl)
theorem andAbx (w : Word) : Statement (.andAbx w) := of_three rfl rfl (fits_word _ _ w rfl rfl)
theorem andAby (w : Word) : Statement (.andAby w) := of_three rfl rfl (fits_word _ _ w rfl rfl)
theorem andIzx (zp : Byte) : Statement (.andIzx zp) := of_two rfl rfl (fits_byte _ _ zp rfl rfl)
theorem andIzy (zp : Byte) : Statement (.andIzy zp) := of_two rfl rfl (fits_byte _ _ zp rfl rfl)
theorem oraImm (v : Byte) : Statement (.oraImm v) := of_two rfl rfl (fits_byte _ _ v rfl rfl)
theorem oraZp (zp : Byte) : Statement (.oraZp zp) := of_two rfl rfl (fits_byte _ _ zp rfl rfl)
theorem oraZpx (zp : Byte) : Statement (.oraZpx zp) := of_two rfl rfl (fits_byte _ _ zp rfl rfl)
theorem oraAbs (w : Word) : Statement (.oraAbs w) := of_three rfl rfl (fits_word _ _ w rfl rfl)
theorem oraAbx (w : Word) : Statement (.oraAbx w) := of_three rfl rfl (fits_word _ _ w rfl rfl)
theorem oraAby (w : Word) : Statement (.oraAby w) := of_three rfl rfl (fits_word _ _ w rfl rfl)
theorem oraIzx (zp : Byte) : Statement (.oraIzx zp) := of_two rfl rfl (fits_byte _ _ zp rfl rfl)
theorem oraIzy (zp : Byte) : Statement (.oraIzy zp) := of_two rfl rfl (fits_byte _ _ zp rfl rfl)
theorem eorImm (v : Byte) : Statement (.eorImm v) := of_two rfl rfl (fits_byte _ _ v rfl rfl)
theorem eorZp (zp : Byte) : Statement (.eorZp zp) := of_two rfl rfl (fits_byte _ _ zp rfl rfl)
theorem eorZpx (zp : Byte) : Statement (.eorZpx zp) := of_two rfl rfl (fits_byte _ _ zp rfl rfl)
theorem eorAbs (w : Word) : Statement (.eorAbs w) := of_three rfl rfl (fits_word _ _ w rfl rfl)
theorem eorAbx (w : Word) : Statement (.eorAbx w) := of_three rfl rfl (fits_word _ _ w rfl rfl)
theorem eorAby (w : Word) : Statement (.eorAby w) := of_three rfl rfl (fits_word _ _ w rfl rfl)
theorem eorIzx (zp : Byte) : Statement (.eorIzx zp) := of_two rfl rfl (fits_byte _ _ zp rfl rfl)
theorem eorIzy (zp : Byte) : Statement (.eorIzy zp) := of_two rfl rfl (fits_byte _ _ zp rfl rfl)
theorem bitZp (zp : Byte) : Statement (.bitZp zp) := of_two rfl rfl (fits_byte _ _ zp rfl rfl)
theorem bitAbs (w : Word) : Statement (.bitAbs w) := of_three rfl rfl (fits_word _ _ w rfl rfl)
theorem adcImm (v : Byte) : Statement (.adcImm v) := of_two rfl rfl (fits_byte _ _ v rfl rfl)
theorem adcZp (zp : Byte) : Statement (.adcZp zp) := of_two rfl rfl (fits_byte _ _ zp rfl rfl)
theorem adcZpx (zp : Byte) : Statement (.adcZpx zp) := of_two rfl rfl (fits_byte _ _ zp rfl rfl)
theorem adcAbs (w : Word) : Statement (.adcAbs w) := of_three rfl rfl (fits_word _ _ w rfl rfl)
theorem adcAbx (w : Word) : Statement (.adcAbx w) := of_three rfl rfl (fits_word _ _ w rfl rfl)
theorem adcAby (w : Word) : Statement (.adcAby w) := of_three rfl rfl (fits_word _ _ w rfl rfl)
theorem adcIzx (zp : Byte) : Statement (.adcIzx zp) := of_two rfl rfl (fits_byte _ _ zp rfl rfl)
theorem adcIzy (zp : Byte) : Statement (.adcIzy zp) := of_two rfl rfl (fits_byte _ _ zp rfl rfl)
theorem sbcImm (v : Byte) : Statement (.sbcImm v) := of_two rfl rfl (fits_byte _ _ v rfl rfl)
theorem sbcZp (zp : Byte) : Statement (.sbcZp zp) := of_two rfl rfl (fits_byte _ _ zp rfl rfl)
theorem sbcZpx (zp : Byte) : Statement (.sbcZpx zp) := of_two rfl rfl (fits_byte _ _ zp rfl rfl)
theorem sbcAbs (w : Word) : Statement (.sbcAbs w) := of_three rfl rfl (fits_word _ _ w rfl rfl)
theorem sbcAbx (w : Word) : Statement (.sbcAbx w) := of_three rfl rfl (fits_word _ _ w rfl rfl)
theorem sbcAby (w : Word) : Statement (.sbcAby w) := of_three rfl rfl (fits_word _ _ w rfl rfl)
theorem sbcIzx (zp : Byte) : Statement (.sbcIzx zp) := of_two rfl rfl (fits_byte _ _ zp rfl rfl)
theorem sbcIzy (zp : Byte) : Statement (.sbcIzy zp) := of_two rfl rfl (fits_byte _ _ zp rfl rfl)
theorem cmpImm (v : Byte) : Statement (.cmpImm v) := of_two rfl rfl (fits_byte _ _ v rfl rfl)
theorem cmpZp (zp : Byte) : Statement (.cmpZp zp) := of_two rfl rfl (fits_byte _ _ zp rfl rfl)
theorem cmpZpx (zp : Byte) : Statement (.cmpZpx zp) := of_two rfl rfl (fits_byte _ _ zp rfl rfl)
theorem cmpAbs (w : Word) : Statement (.cmpAbs w) := of_three rfl rfl (fits_word _ _ w rfl rfl)
theorem cmpAbx (w : Word) : Statement (.cmpAbx w) := of_three rfl rfl (fits_word _ _ w rfl rfl)
theorem cmpAby (w : Word) : Statement (.cmpAby w) := of_three rfl rfl (fits_word _ _ w rfl rfl)
theorem cmpIzx (zp : Byte) : Statement (.cmpIzx zp) := of_two rfl rfl (fits_byte _ _ zp rfl rfl)
theorem cmpIzy (zp : Byte) : Statement (.cmpIzy zp) := of_two rfl rfl (fits_byte _ _ zp rfl rfl)
theorem cpxImm (v : Byte) : Statement (.cpxImm v) := of_two rfl rfl (fits_byte _ _ v rfl rfl)
theorem cpxZp (zp : Byte) : Statement (.cpxZp zp) := of_two rfl rfl (fits_byte _ _ zp rfl rfl)
theorem cpxAbs (w : Word) : Statement (.cpxAbs w) := of_three rfl rfl (fits_word _ _ w rfl rfl)
theorem cpyImm (v : Byte) : Statement (.cpyImm v) := of_two rfl rfl (fits_byte _ _ v rfl rfl)
theorem cpyZp (zp : Byte) : Statement (.cpyZp zp) := of_two rfl rfl (fits_byte _ _ zp rfl rfl)
theorem cpyAbs (w : Word) : Statement (.cpyAbs w) := of_three rfl rfl (fits_word _ _ w rfl rfl)
theorem aslAcc : Statement .aslAcc := of_one rfl rfl rfl
theorem aslZp (zp : Byte) : Statement (.aslZp zp) := of_two rfl rfl (fits_byte _ _ zp rfl rfl)
theorem aslZpx (zp : Byte) : Statement (.aslZpx zp) := of_two rfl rfl (fits_byte _ _ zp rfl rfl)
theorem aslAbs (w : Word) : Statement (.aslAbs w) := of_three rfl rfl (fits_word _ _ w rfl rfl)
theorem aslAbx (w : Word) : Statement (.aslAbx w) := of_three rfl rfl (fits_word _ _ w rfl rfl)
theorem lsrAcc : Statement .lsrAcc := of_one rfl rfl rfl
theorem lsrZp (zp : Byte) : Statement (.lsrZp zp) := of_two rfl rfl (fits_byte _ _ zp rfl rfl)
theorem lsrZpx (zp : Byte) : Statement (.lsrZpx zp) := of_two rfl rfl (fits_byte _ _ zp rfl rfl)
theorem lsrAbs (w : Word) : Statement (.lsrAbs w) := of_three rfl rfl (fits_word _ _ w rfl rfl)
theorem lsrAbx (w : Word) : Statement (.lsrAbx w) := of_three rfl rfl (fits_word _ _ w rfl rfl)
theorem rolAcc : Statement .rolAcc := of_one rfl rfl rfl
theorem rolZp (zp : Byte) : Statement (.rolZp zp) := of_two rfl rfl (fits_byte _ _ zp rfl rfl)
theorem rolZpx (zp : Byte) : Statement (.rolZpx zp) := of_two rfl rfl (fits_byte _ _ zp rfl rfl)
theorem rolAbs (w : Word) : Statement (.rolAbs w) := of_three rfl rfl (fits_word _ _ w rfl rfl)
theorem rolAbx (w : Word) : Statement (.rolAbx w) := of_three rfl rfl (fits_word _ _ w rfl rfl)
theorem rorAcc : Statement .rorAcc := of_one rfl rfl rfl
theorem rorZp (zp : Byte) : Statement (.rorZp zp) := of_two rfl rfl (fits_byte _ _ zp rfl rfl)
theorem rorZpx (zp : Byte) : Statement (.rorZpx zp) := of_two rfl rfl (fits_byte _ _ zp rfl rfl)
theorem rorAbs (w : Word) : Statement (.rorAbs w) := of_three rfl rfl (fits_word _ _ w rfl rfl)
theorem rorAbx (w : Word) : Statement (.rorAbx w) := of_three rfl rfl (fits_word _ _ w rfl rfl)
theorem incZp (zp : Byte) : Statement (.incZp zp) := of_two rfl rfl (fits_byte _ _ zp rfl rfl)
theorem incZpx (zp : Byte) : Statement (.incZpx zp) := of_two rfl rfl (fits_byte _ _ zp rfl rfl)
theorem incAbs (w : Word) : Statement (.incAbs w) := of_three rfl rfl (fits_word _ _ w rfl rfl)
theorem incAbx (w : Word) : Statement (.incAbx w) := of_three rfl rfl (fits_word _ _ w rfl rfl)
theorem decZp (zp : Byte) : Statement (.decZp zp) := of_two rfl rfl (fits_byte _ _ zp rfl rfl)
theorem decZpx (zp : Byte) : Statement (.decZpx zp) := of_two rfl rfl (fits_byte _ _ zp rfl rfl)
theorem decAbs (w : Word) : Statement (.decAbs w) := of_three rfl rfl (fits_word _ _ w rfl rfl)
theorem decAbx (w : Word) : Statement (.decAbx w) := of_three rfl rfl (fits_word _ _ w rfl rfl)
theorem inx : Statement .inx := of_one rfl rfl rfl
theorem iny : Statement .iny := of_one rfl rfl rfl
theorem dex : Statement .dex := of_one rfl rfl rfl
theorem dey : Statement .dey := of_one rfl rfl rfl
theorem pha : Statement .pha := of_one rfl rfl rfl
theorem php : Statement .php := of_one rfl rfl rfl
theorem pla : Statement .pla := of_one rfl rfl rfl
theorem plp : Statement .plp := of_one rfl rfl rfl
theorem clc : Statement .clc := of_one rfl rfl rfl
theorem sec : Statement .sec := of_one rfl rfl rfl
theorem cli : Statement .cli := of_one rfl rfl rfl
theorem sei : Statement .sei := of_one rfl rfl rfl
theorem cld : Statement .cld := of_one rfl rfl rfl
theorem sed : Statement .sed := of_one rfl rfl rfl
theorem clv : Statement .clv := of_one rfl rfl rfl
theorem nop : Statement .nop := of_one rfl rfl rfl
theorem bcc (rel : Byte) : Statement (.bcc rel) := of_two rfl rfl (fits_byte _ _ rel rfl rfl)
theorem bcs (rel : Byte) : Statement (.bcs rel) := of_two rfl rfl (fits_byte _ _ rel rfl rfl)
theorem beq (rel : Byte) : Statement (.beq rel) := of_two rfl rfl (fits_byte _ _ rel rfl rfl)
theorem bne (rel : Byte) : Statement (.bne rel) := of_two rfl rfl (fits_byte _ _ rel rfl rfl)
theorem bmi (rel : Byte) : Statement (.bmi rel) := of_two rfl rfl (fits_byte _ _ rel rfl rfl)
theorem bpl (rel : Byte) : Statement (.bpl rel) := of_two rfl rfl (fits_byte _ _ rel rfl rfl)
theorem bvc (rel : Byte) : Statement (.bvc rel) := of_two rfl rfl (fits_byte _ _ rel rfl rfl)
theorem bvs (rel : Byte) : Statement (.bvs rel) := of_two rfl rfl (fits_byte _ _ rel rfl rfl)
theorem jmpAbs (w : Word) : Statement (.jmpAbs w) := of_three rfl rfl (fits_word _ _ w rfl rfl)
theorem jmpInd (w : Word) : Statement (.jmpInd w) := of_three rfl rfl (fits_word _ _ w rfl rfl)
theorem jsr (w : Word) : Statement (.jsr w) := of_three rfl rfl (fits_word _ _ w rfl rfl)
theorem rts : Statement .rts := of_one rfl rfl rfl
theorem brk (pad : Byte) : Statement (.brk pad) := of_two rfl rfl (fits_byte _ _ pad rfl rfl)
theorem rti : Statement .rti := of_one rfl rfl rfl

/-- The statement of every instruction. -/
theorem all : (i : Instr) → Statement i
  | .ldaImm v => ldaImm v
  | .ldaZp zp => ldaZp zp
  | .ldaZpx zp => ldaZpx zp
  | .ldaAbs w => ldaAbs w
  | .ldaAbx w => ldaAbx w
  | .ldaAby w => ldaAby w
  | .ldaIzx zp => ldaIzx zp
  | .ldaIzy zp => ldaIzy zp
  | .ldxImm v => ldxImm v
  | .ldxZp zp => ldxZp zp
  | .ldxZpy zp => ldxZpy zp
  | .ldxAbs w => ldxAbs w
  | .ldxAby w => ldxAby w
  | .ldyImm v => ldyImm v
  | .ldyZp zp => ldyZp zp
  | .ldyZpx zp => ldyZpx zp
  | .ldyAbs w => ldyAbs w
  | .ldyAbx w => ldyAbx w
  | .staZp zp => staZp zp
  | .staZpx zp => staZpx zp
  | .staAbs w => staAbs w
  | .staAbx w => staAbx w
  | .staAby w => staAby w
  | .staIzx zp => staIzx zp
  | .staIzy zp => staIzy zp
  | .stxZp zp => stxZp zp
  | .stxZpy zp => stxZpy zp
  | .stxAbs w => stxAbs w
  | .styZp zp => styZp zp
  | .styZpx zp => styZpx zp
  | .styAbs w => styAbs w
  | .tax => tax
  | .tay => tay
  | .txa => txa
  | .tya => tya
  | .tsx => tsx
  | .txs => txs
  | .andImm v => andImm v
  | .andZp zp => andZp zp
  | .andZpx zp => andZpx zp
  | .andAbs w => andAbs w
  | .andAbx w => andAbx w
  | .andAby w => andAby w
  | .andIzx zp => andIzx zp
  | .andIzy zp => andIzy zp
  | .oraImm v => oraImm v
  | .oraZp zp => oraZp zp
  | .oraZpx zp => oraZpx zp
  | .oraAbs w => oraAbs w
  | .oraAbx w => oraAbx w
  | .oraAby w => oraAby w
  | .oraIzx zp => oraIzx zp
  | .oraIzy zp => oraIzy zp
  | .eorImm v => eorImm v
  | .eorZp zp => eorZp zp
  | .eorZpx zp => eorZpx zp
  | .eorAbs w => eorAbs w
  | .eorAbx w => eorAbx w
  | .eorAby w => eorAby w
  | .eorIzx zp => eorIzx zp
  | .eorIzy zp => eorIzy zp
  | .bitZp zp => bitZp zp
  | .bitAbs w => bitAbs w
  | .adcImm v => adcImm v
  | .adcZp zp => adcZp zp
  | .adcZpx zp => adcZpx zp
  | .adcAbs w => adcAbs w
  | .adcAbx w => adcAbx w
  | .adcAby w => adcAby w
  | .adcIzx zp => adcIzx zp
  | .adcIzy zp => adcIzy zp
  | .sbcImm v => sbcImm v
  | .sbcZp zp => sbcZp zp
  | .sbcZpx zp => sbcZpx zp
  | .sbcAbs w => sbcAbs w
  | .sbcAbx w => sbcAbx w
  | .sbcAby w => sbcAby w
  | .sbcIzx zp => sbcIzx zp
  | .sbcIzy zp => sbcIzy zp
  | .cmpImm v => cmpImm v
  | .cmpZp zp => cmpZp zp
  | .cmpZpx zp => cmpZpx zp
  | .cmpAbs w => cmpAbs w
  | .cmpAbx w => cmpAbx w
  | .cmpAby w => cmpAby w
  | .cmpIzx zp => cmpIzx zp
  | .cmpIzy zp => cmpIzy zp
  | .cpxImm v => cpxImm v
  | .cpxZp zp => cpxZp zp
  | .cpxAbs w => cpxAbs w
  | .cpyImm v => cpyImm v
  | .cpyZp zp => cpyZp zp
  | .cpyAbs w => cpyAbs w
  | .aslAcc => aslAcc
  | .aslZp zp => aslZp zp
  | .aslZpx zp => aslZpx zp
  | .aslAbs w => aslAbs w
  | .aslAbx w => aslAbx w
  | .lsrAcc => lsrAcc
  | .lsrZp zp => lsrZp zp
  | .lsrZpx zp => lsrZpx zp
  | .lsrAbs w => lsrAbs w
  | .lsrAbx w => lsrAbx w
  | .rolAcc => rolAcc
  | .rolZp zp => rolZp zp
  | .rolZpx zp => rolZpx zp
  | .rolAbs w => rolAbs w
  | .rolAbx w => rolAbx w
  | .rorAcc => rorAcc
  | .rorZp zp => rorZp zp
  | .rorZpx zp => rorZpx zp
  | .rorAbs w => rorAbs w
  | .rorAbx w => rorAbx w
  | .incZp zp => incZp zp
  | .incZpx zp => incZpx zp
  | .incAbs w => incAbs w
  | .incAbx w => incAbx w
  | .decZp zp => decZp zp
  | .decZpx zp => decZpx zp
  | .decAbs w => decAbs w
  | .decAbx w => decAbx w
  | .inx => inx
  | .iny => iny
  | .dex => dex
  | .dey => dey
  | .pha => pha
  | .php => php
  | .pla => pla
  | .plp => plp
  | .clc => clc
  | .sec => sec
  | .cli => cli
  | .sei => sei
  | .cld => cld
  | .sed => sed
  | .clv => clv
  | .nop => nop
  | .bcc rel => bcc rel
  | .bcs rel => bcs rel
  | .beq rel => beq rel
  | .bne rel => bne rel
  | .bmi rel => bmi rel
  | .bpl rel => bpl rel
  | .bvc rel => bvc rel
  | .bvs rel => bvs rel
  | .jmpAbs w => jmpAbs w
  | .jmpInd w => jmpInd w
  | .jsr w => jsr w
  | .rts => rts
  | .brk pad => brk pad
  | .rti => rti

end Sys2Proof.Laws.EncodedLength
end

