-- ==== Sys2Proof/Laws/Step.lean ====
section
/-! SUPPORT. What a step can do, said once; every meaning completes; what the report of a dispatch says. -/

namespace Sys2Proof.Machine

/-- No instruction traps (R245): every meaning answers a next state. -/
theorem exec_answers_next (i : Instr) (s : State) : ∃ t, exec i s = .next t := by
  cases i <;> exact ⟨_, rfl⟩

/-- A decimal ADC or SBC counts its free values and touches nothing else (log 7). -/
theorem drawDecimal_eq (s : State) : ∃ n, drawDecimal s = s.setDraws n := by
  unfold drawDecimal
  split
  · exact ⟨_, rfl⟩
  · exact ⟨s.draws, rfl⟩

/-- When nothing is pending that can be serviced (R249). -/
theorem State.due_eq_none {s : State}
    (h : s.irqReq = none ∨ ∃ r, s.irqReq = some r ∧ r.kind = .irq ∧ s.p.i = true) : s.due = none := by
  rcases h with h | ⟨r, h, hk, hi⟩
  · simp [State.due, h]
  · simp [State.due, h, serviceable, hk, hi]

/-- What is due is what the slot holds, and it is serviceable (R249). -/
theorem State.due_eq_some {s : State} {r : Request} (h : s.due = some r) :
    s.irqReq = some r ∧ serviceable s.p r = true := by
  unfold State.due at h
  split at h
  · cases h
  · split at h
    · cases h; exact ⟨‹_›, ‹_›⟩
    · cases h

/-- The cases of a step that answers a next state: an entry, or the decoded instruction with its cycles charged. -/
theorem step_cases {s t : State} (h : step s = .next t) :
    s.halted = false ∧
    ((∃ r, s.due = some r ∧ t = service r s) ∨
     (∃ i rest u, s.due = none ∧ decode s.fetchBytes = .instr i rest ∧ exec i s = .next u ∧
        t = u.setCyc (u.cyc + cycleCost i s))) := by
  unfold step State.choice at h
  by_cases hh : s.halted = true
  · simp [hh] at h
  · have hh' : s.halted = false := by simpa using hh
    refine ⟨hh', ?_⟩
    cases hd : s.due with
    | some r =>
      simp [hh', hd] at h
      exact .inl ⟨r, rfl, h.symm⟩
    | none =>
      cases hdec : decode s.fetchBytes with
      | reject r => simp [hh', hd, hdec] at h
      | instr i rest =>
        obtain ⟨u, hu⟩ := exec_answers_next i s
        simp [hh', hd, hdec, hu, retire] at h
        exact .inr ⟨i, rest, u, rfl, rfl, hu, h.symm⟩

/-- `dispatch` leaves the state `step` answers, where it answers one. -/
theorem dispatch_of_step {s t : State} (h : step s = .next t) : (dispatch s).1 = t := by
  cases hc : s.choice with
  | halted => simp [step, hc] at h
  | service r => simpa [step, dispatch, hc] using h
  | illegal addr byte => simp [step, hc] at h
  | run i =>
    obtain ⟨u, hu⟩ := exec_answers_next i s
    simpa [step, dispatch, hc, hu, retire] using h

/-- No dispatch reports `stopped`. -/
theorem dispatch_not_stopped (s : State) : (dispatch s).2 ≠ .stopped := by
  cases hc : s.choice with
  | run i =>
    obtain ⟨u, hu⟩ := exec_answers_next i s
    simp [dispatch, hc, hu, retire]
  | _ => simp [dispatch, hc]

end Sys2Proof.Machine

namespace Sys2Proof.Laws

/-- Every value of `Instr` is well formed (R86). -/
theorem instr_wf (i : Instr) : i.wf = true := (EncodedLength.all i).2.2.2

end Sys2Proof.Laws
end

