-- ==== Sys2Proof/Tests/Slice0.lean ====
section
/-! SUPPORT. The tests: ill-formed lines refused, every constructor's decoding, one step per test vector, and a witness for
the hypotheses of every statement. Expected results are the spec's own (95_test_vectors.md, the encoding tables of
30_encoding.md), copied from there. -/

namespace Sys2Proof.Tests
open Sys2Proof.Machine

/-- The default start of 95_test_vectors.md section 2. -/
def start : State :=
  { State.reset with sp := 0xFF, pc := 0x0200, p := ⟨false, false, false, false, false, false⟩ }

/-- Exactly these flags set. -/
def only (fs : List FlagName) : Flags :=
  fs.foldl (fun p f => p.put f true) ⟨false, false, false, false, false, false⟩

/-- The given bytes in memory and the code bytes at pc. -/
def code (bytes : List Byte) (cells : List (Word × Byte)) (s : State) : State :=
  (cells.foldl (fun s c => s.memWrite c.1 c.2) s).writeBytes s.pc bytes

/-- One step answers a next state that passes the test. -/
def shows (s : State) (test : State → Bool) : Bool :=
  match step s with
  | .next t => test t
  | .fault _ => false
  | .refused _ => false

/-- Every list of bytes decodes to its instruction and nothing is left. -/
def decodesAll (l : List (List Byte × Instr)) : Bool := l.all fun x => decode x.1 == .instr x.2 []

/-! ## Well-formedness: each check refuses an ill-formed line -/

/-- R123: STA has no immediate form. -/
theorem test_wf_illegal_pair : (Line.mk .sta .imm 0).wf = false := by decide
/-- R219: JMP has no indexed form. -/
theorem test_wf_illegal_index : (Line.mk .jmp .abx 0).pairLegal = false := by decide
/-- R81: a zero-page operand is one byte. -/
theorem test_wf_operand_too_large : (Line.mk .lda .zp 0x100).wf = false := by decide
/-- R81: an absolute operand is one word. -/
theorem test_wf_word_too_large : (Line.mk .lda .abs 0x10000).operandFits = false := by decide
/-- R81: an implied instruction has no operand. -/
theorem test_wf_operand_without_field : (Line.mk .nop .imp 1).wf = false := by decide
/-- A legal line at the top of its operand's range. -/
theorem test_wf_legal : (Line.mk .lda .abs 0xFFFF).wf = true := by decide
/-- R243: a size of 0 gives no core. -/
theorem test_size_zero_refused (c : HwConfig) (u : PowerOn) : construct 0 c u = none := rfl

/-! ## Decoding: every row of R90, its bytes written out from the spec -/

/-- R90: LDA, LDX, LDY. -/
theorem test_decode_loads : decodesAll
    [([0xA1, 0x9A], .ldaIzx 0x9A), ([0xA5, 0x9A], .ldaZp 0x9A), ([0xA9, 0x9A], .ldaImm 0x9A), ([0xAD, 0x34, 0x12], .ldaAbs 0x1234),
     ([0xB1, 0x9A], .ldaIzy 0x9A), ([0xB5, 0x9A], .ldaZpx 0x9A), ([0xB9, 0x34, 0x12], .ldaAby 0x1234), ([0xBD, 0x34, 0x12], .ldaAbx 0x1234),
     ([0xA2, 0x9A], .ldxImm 0x9A), ([0xA6, 0x9A], .ldxZp 0x9A), ([0xAE, 0x34, 0x12], .ldxAbs 0x1234), ([0xB6, 0x9A], .ldxZpy 0x9A),
     ([0xBE, 0x34, 0x12], .ldxAby 0x1234), ([0xA0, 0x9A], .ldyImm 0x9A), ([0xA4, 0x9A], .ldyZp 0x9A), ([0xAC, 0x34, 0x12], .ldyAbs 0x1234),
     ([0xB4, 0x9A], .ldyZpx 0x9A), ([0xBC, 0x34, 0x12], .ldyAbx 0x1234)] = true := by decide

/-- R90: STA, STX, STY. -/
theorem test_decode_stores : decodesAll
    [([0x81, 0x9A], .staIzx 0x9A), ([0x85, 0x9A], .staZp 0x9A), ([0x8D, 0x34, 0x12], .staAbs 0x1234), ([0x91, 0x9A], .staIzy 0x9A),
     ([0x95, 0x9A], .staZpx 0x9A), ([0x99, 0x34, 0x12], .staAby 0x1234), ([0x9D, 0x34, 0x12], .staAbx 0x1234), ([0x86, 0x9A], .stxZp 0x9A),
     ([0x8E, 0x34, 0x12], .stxAbs 0x1234), ([0x96, 0x9A], .stxZpy 0x9A), ([0x84, 0x9A], .styZp 0x9A), ([0x8C, 0x34, 0x12], .styAbs 0x1234),
     ([0x94, 0x9A], .styZpx 0x9A)] = true := by decide

/-- R90: TAX, TAY, TXA, TYA, TSX, TXS. -/
theorem test_decode_transfers : decodesAll
    [([0xAA], .tax), ([0xA8], .tay), ([0x8A], .txa), ([0x98], .tya),
     ([0xBA], .tsx), ([0x9A], .txs)] = true := by decide

/-- R90: AND, ORA. -/
theorem test_decode_logic : decodesAll
    [([0x21, 0x9A], .andIzx 0x9A), ([0x25, 0x9A], .andZp 0x9A), ([0x29, 0x9A], .andImm 0x9A), ([0x2D, 0x34, 0x12], .andAbs 0x1234),
     ([0x31, 0x9A], .andIzy 0x9A), ([0x35, 0x9A], .andZpx 0x9A), ([0x39, 0x34, 0x12], .andAby 0x1234), ([0x3D, 0x34, 0x12], .andAbx 0x1234),
     ([0x01, 0x9A], .oraIzx 0x9A), ([0x05, 0x9A], .oraZp 0x9A), ([0x09, 0x9A], .oraImm 0x9A), ([0x0D, 0x34, 0x12], .oraAbs 0x1234),
     ([0x11, 0x9A], .oraIzy 0x9A), ([0x15, 0x9A], .oraZpx 0x9A), ([0x19, 0x34, 0x12], .oraAby 0x1234), ([0x1D, 0x34, 0x12], .oraAbx 0x1234)] = true := by decide

/-- R90: EOR, BIT. -/
theorem test_decode_eor_bit : decodesAll
    [([0x41, 0x9A], .eorIzx 0x9A), ([0x45, 0x9A], .eorZp 0x9A), ([0x49, 0x9A], .eorImm 0x9A), ([0x4D, 0x34, 0x12], .eorAbs 0x1234),
     ([0x51, 0x9A], .eorIzy 0x9A), ([0x55, 0x9A], .eorZpx 0x9A), ([0x59, 0x34, 0x12], .eorAby 0x1234), ([0x5D, 0x34, 0x12], .eorAbx 0x1234),
     ([0x24, 0x9A], .bitZp 0x9A), ([0x2C, 0x34, 0x12], .bitAbs 0x1234)] = true := by decide

/-- R90: ADC, SBC. -/
theorem test_decode_add_subtract : decodesAll
    [([0x61, 0x9A], .adcIzx 0x9A), ([0x65, 0x9A], .adcZp 0x9A), ([0x69, 0x9A], .adcImm 0x9A), ([0x6D, 0x34, 0x12], .adcAbs 0x1234),
     ([0x71, 0x9A], .adcIzy 0x9A), ([0x75, 0x9A], .adcZpx 0x9A), ([0x79, 0x34, 0x12], .adcAby 0x1234), ([0x7D, 0x34, 0x12], .adcAbx 0x1234),
     ([0xE1, 0x9A], .sbcIzx 0x9A), ([0xE5, 0x9A], .sbcZp 0x9A), ([0xE9, 0x9A], .sbcImm 0x9A), ([0xED, 0x34, 0x12], .sbcAbs 0x1234),
     ([0xF1, 0x9A], .sbcIzy 0x9A), ([0xF5, 0x9A], .sbcZpx 0x9A), ([0xF9, 0x34, 0x12], .sbcAby 0x1234), ([0xFD, 0x34, 0x12], .sbcAbx 0x1234)] = true := by decide

/-- R90: CMP, CPX, CPY. -/
theorem test_decode_compares : decodesAll
    [([0xC1, 0x9A], .cmpIzx 0x9A), ([0xC5, 0x9A], .cmpZp 0x9A), ([0xC9, 0x9A], .cmpImm 0x9A), ([0xCD, 0x34, 0x12], .cmpAbs 0x1234),
     ([0xD1, 0x9A], .cmpIzy 0x9A), ([0xD5, 0x9A], .cmpZpx 0x9A), ([0xD9, 0x34, 0x12], .cmpAby 0x1234), ([0xDD, 0x34, 0x12], .cmpAbx 0x1234),
     ([0xE0, 0x9A], .cpxImm 0x9A), ([0xE4, 0x9A], .cpxZp 0x9A), ([0xEC, 0x34, 0x12], .cpxAbs 0x1234), ([0xC0, 0x9A], .cpyImm 0x9A),
     ([0xC4, 0x9A], .cpyZp 0x9A), ([0xCC, 0x34, 0x12], .cpyAbs 0x1234)] = true := by decide

/-- R90: ASL, ROL. -/
theorem test_decode_shifts_left : decodesAll
    [([0x06, 0x9A], .aslZp 0x9A), ([0x0A], .aslAcc), ([0x0E, 0x34, 0x12], .aslAbs 0x1234), ([0x16, 0x9A], .aslZpx 0x9A),
     ([0x1E, 0x34, 0x12], .aslAbx 0x1234), ([0x26, 0x9A], .rolZp 0x9A), ([0x2A], .rolAcc), ([0x2E, 0x34, 0x12], .rolAbs 0x1234),
     ([0x36, 0x9A], .rolZpx 0x9A), ([0x3E, 0x34, 0x12], .rolAbx 0x1234)] = true := by decide

/-- R90: LSR, ROR. -/
theorem test_decode_shifts_right : decodesAll
    [([0x46, 0x9A], .lsrZp 0x9A), ([0x4A], .lsrAcc), ([0x4E, 0x34, 0x12], .lsrAbs 0x1234), ([0x56, 0x9A], .lsrZpx 0x9A),
     ([0x5E, 0x34, 0x12], .lsrAbx 0x1234), ([0x66, 0x9A], .rorZp 0x9A), ([0x6A], .rorAcc), ([0x6E, 0x34, 0x12], .rorAbs 0x1234),
     ([0x76, 0x9A], .rorZpx 0x9A), ([0x7E, 0x34, 0x12], .rorAbx 0x1234)] = true := by decide

/-- R90: INC, DEC, INX, INY, DEX, DEY. -/
theorem test_decode_increments : decodesAll
    [([0xE6, 0x9A], .incZp 0x9A), ([0xEE, 0x34, 0x12], .incAbs 0x1234), ([0xF6, 0x9A], .incZpx 0x9A), ([0xFE, 0x34, 0x12], .incAbx 0x1234),
     ([0xC6, 0x9A], .decZp 0x9A), ([0xCE, 0x34, 0x12], .decAbs 0x1234), ([0xD6, 0x9A], .decZpx 0x9A), ([0xDE, 0x34, 0x12], .decAbx 0x1234),
     ([0xE8], .inx), ([0xC8], .iny), ([0xCA], .dex), ([0x88], .dey)] = true := by decide

/-- R90: PHA, PHP, PLA, PLP, CLC, SEC, CLI, SEI, CLD, SED, CLV, NOP. -/
theorem test_decode_stack_flags : decodesAll
    [([0x48], .pha), ([0x08], .php), ([0x68], .pla), ([0x28], .plp),
     ([0x18], .clc), ([0x38], .sec), ([0x58], .cli), ([0x78], .sei),
     ([0xD8], .cld), ([0xF8], .sed), ([0xB8], .clv), ([0xEA], .nop)] = true := by decide

/-- R90: BCC, BCS, BEQ, BNE, BMI, BPL, BVC, BVS. -/
theorem test_decode_branches : decodesAll
    [([0x90, 0x9A], .bcc 0x9A), ([0xB0, 0x9A], .bcs 0x9A), ([0xF0, 0x9A], .beq 0x9A), ([0xD0, 0x9A], .bne 0x9A),
     ([0x30, 0x9A], .bmi 0x9A), ([0x10, 0x9A], .bpl 0x9A), ([0x50, 0x9A], .bvc 0x9A), ([0x70, 0x9A], .bvs 0x9A)] = true := by decide

/-- R90: JMP, JSR, RTS, BRK, RTI. -/
theorem test_decode_jumps : decodesAll
    [([0x4C, 0x34, 0x12], .jmpAbs 0x1234), ([0x6C, 0x34, 0x12], .jmpInd 0x1234), ([0x20, 0x34, 0x12], .jsr 0x1234), ([0x60], .rts),
     ([0x00, 0x9A], .brk 0x9A), ([0x40], .rti)] = true := by decide

/-! ## One step of each instruction -/

/-- Vectors LS04, LS09. -/
theorem test_lda :
    shows (code [0xB5, 0xFF] [(0x0000, 0x77), (0x0100, 0x99)] { start with x := 0x01 })
      (fun t => t.a == 0x77 && t.pc == 0x0202 && t.p == only []) = true ∧
    shows (code [0xA1, 0xFE] [(0x0000, 0x30), (0x00FF, 0x00), (0x0100, 0x40), (0x3000, 0x22), (0x4000, 0x11)] { start with x := 0x01 })
      (fun t => t.a == 0x11 && t.pc == 0x0202 && t.p == only []) = true := by decide

/-- Vectors LS16, LS17. -/
theorem test_ldx :
    shows (code [0xB6, 0xF0] [(0x0010, 0x33)] { start with y := 0x20 })
      (fun t => t.x == 0x33 && t.pc == 0x0202 && t.p == only []) = true ∧
    shows (code [0xBE, 0x00, 0x03] [(0x03FF, 0x80)] { start with y := 0xFF })
      (fun t => t.x == 0x80 && t.pc == 0x0203 && t.p == only [.n]) = true := by decide

/-- Vectors LS18, LS19. -/
theorem test_ldy :
    shows (code [0xA0, 0x00] [] { start with y := 0x09 })
      (fun t => t.y == 0x00 && t.pc == 0x0202 && t.p == only [.z]) = true ∧
    shows (code [0xB4, 0x10] [(0x0005, 0x0A)] { start with x := 0xF5 })
      (fun t => t.y == 0x0A && t.pc == 0x0202 && t.p == only []) = true := by decide

/-- Vectors LS21, LS23. -/
theorem test_sta :
    shows (code [0x85, 0x10] [(0x0010, 0xFF)] { start with a := 0x00, p := only [.n] })
      (fun t => t.pc == 0x0202 && t.memRead 0x0010 == 0x00 && t.p == only [.n]) = true ∧
    shows (code [0x91, 0x40] [(0x0040, 0x00), (0x0041, 0x60)] { start with a := 0x5A, y := 0x03 })
      (fun t => t.pc == 0x0202 && t.memRead 0x6003 == 0x5A && t.p == only []) = true := by decide

/-- Vectors LS26, LS28. -/
theorem test_stx :
    shows (code [0x96, 0xF0] [] { start with x := 0x77, y := 0x11 })
      (fun t => t.pc == 0x0202 && t.memRead 0x0001 == 0x77 && t.p == only []) = true ∧
    shows (code [0x8E, 0x34, 0x12] [(0x1234, 0xFF)] { start with x := 0x00 })
      (fun t => t.pc == 0x0203 && t.memRead 0x1234 == 0x00 && t.p == only []) = true := by decide

/-- Vector LS27. -/
theorem test_sty :
    shows (code [0x94, 0x10] [] { start with y := 0x88, x := 0x01 })
      (fun t => t.pc == 0x0202 && t.memRead 0x0011 == 0x88 && t.p == only []) = true := by decide

/-- Vector LS29. -/
theorem test_tax :
    shows (code [0xAA] [] { start with a := 0x00, x := 0x05 })
      (fun t => t.x == 0x00 && t.pc == 0x0201 && t.p == only [.z]) = true := by decide

/-- Vector LS30. -/
theorem test_tay :
    shows (code [0xA8] [] { start with a := 0x80 })
      (fun t => t.y == 0x80 && t.pc == 0x0201 && t.p == only [.n]) = true := by decide

/-- Vector LS31. -/
theorem test_txa :
    shows (code [0x8A] [] { start with x := 0x7F, a := 0xFF, p := only [.n] })
      (fun t => t.a == 0x7F && t.pc == 0x0201 && t.p == only []) = true := by decide

/-- Vector LS32. -/
theorem test_tya :
    shows (code [0x98] [] { start with y := 0x00, a := 0x01 })
      (fun t => t.a == 0x00 && t.pc == 0x0201 && t.p == only [.z]) = true := by decide

/-- Vector LS33. -/
theorem test_tsx :
    shows (code [0xBA] [] { start with sp := 0xFF })
      (fun t => t.x == 0xFF && t.pc == 0x0201 && t.p == only [.n]) = true := by decide

/-- Vectors LS34, LS35. -/
theorem test_txs :
    shows (code [0x9A] [] { start with x := 0x00, sp := 0x80, p := only [.n] })
      (fun t => t.sp == 0x00 && t.pc == 0x0201 && t.p == only [.n]) = true ∧
    shows (code [0x9A] [] { start with x := 0x80, sp := 0x00, p := only [.z] })
      (fun t => t.sp == 0x80 && t.pc == 0x0201 && t.p == only [.z]) = true := by decide

/-- Vectors LG01, LG02. -/
theorem test_and :
    shows (code [0x29, 0x0F] [] { start with a := 0xF0, p := only [.n] })
      (fun t => t.a == 0x00 && t.pc == 0x0202 && t.p == only [.z]) = true ∧
    shows (code [0x25, 0x10] [(0x0010, 0x81)] { start with a := 0xFF })
      (fun t => t.a == 0x81 && t.pc == 0x0202 && t.p == only [.n]) = true := by decide

/-- Vectors LG03, LG04. -/
theorem test_ora :
    shows (code [0x09, 0x80] [] { start with a := 0x01 })
      (fun t => t.a == 0x81 && t.pc == 0x0202 && t.p == only [.n]) = true ∧
    shows (code [0x09, 0x00] [] { start with a := 0x00 })
      (fun t => t.pc == 0x0202 && t.p == only [.z]) = true := by decide

/-- Vectors LG05, LG06. -/
theorem test_eor :
    shows (code [0x49, 0xFF] [] { start with a := 0x0F })
      (fun t => t.a == 0xF0 && t.pc == 0x0202 && t.p == only [.n]) = true ∧
    shows (code [0x4D, 0x34, 0x12] [(0x1234, 0xAA)] { start with a := 0xAA })
      (fun t => t.a == 0x00 && t.pc == 0x0203 && t.p == only [.z]) = true := by decide

/-- Vectors LG07, LG08. -/
theorem test_bit :
    shows (code [0x24, 0x10] [(0x0010, 0xC0)] { start with a := 0x01 })
      (fun t => t.pc == 0x0202 && t.p == only [.n, .v, .z]) = true ∧
    shows (code [0x2C, 0x34, 0x12] [(0x1234, 0x3F)] { start with a := 0xFF, p := only [.v, .n, .z] })
      (fun t => t.pc == 0x0203 && t.p == only []) = true := by decide

/-- Vectors AR03, AR04. -/
theorem test_adc :
    shows (code [0x69, 0x01] [] { start with a := 0x7F })
      (fun t => t.a == 0x80 && t.pc == 0x0202 && t.p == only [.n, .v]) = true ∧
    shows (code [0x69, 0x80] [] { start with a := 0x80 })
      (fun t => t.a == 0x00 && t.pc == 0x0202 && t.p == only [.v, .z, .c]) = true := by decide

/-- Vectors AR14, AR15. N, Z and V are decision D11. -/
theorem test_adc_decimal :
    shows (code [0x69, 0x46] [] { start with a := 0x58, p := only [.c, .d] })
      (fun t => t.a == 0x05 && t.pc == 0x0202 && t.p == only [.v, .d, .c]) = true ∧
    shows (code [0x69, 0x34] [] { start with a := 0x12, p := only [.d] })
      (fun t => t.a == 0x46 && t.pc == 0x0202 && t.p == only [.d]) = true := by decide

/-- Vectors AR21, AR23. -/
theorem test_sbc :
    shows (code [0xE9, 0x00] [] { start with a := 0x00 })
      (fun t => t.a == 0xFF && t.pc == 0x0202 && t.p == only [.n]) = true ∧
    shows (code [0xE9, 0xB0] [] { start with a := 0x50, p := only [.c] })
      (fun t => t.a == 0xA0 && t.pc == 0x0202 && t.p == only [.n, .v]) = true := by decide

/-- Vectors AR29, AR33. N, Z and V are decision D11. -/
theorem test_sbc_decimal :
    shows (code [0xE9, 0x01] [] { start with a := 0x00, p := only [.c, .d] })
      (fun t => t.a == 0x99 && t.pc == 0x0202 && t.p == only [.n, .d]) = true ∧
    shows (code [0xE9, 0x07] [] { start with a := 0x10, p := only [.c, .d] })
      (fun t => t.a == 0x03 && t.pc == 0x0202 && t.p == only [.d, .c]) = true := by decide

/-- Vectors AR40, AR43. -/
theorem test_cmp :
    shows (code [0xC9, 0x42] [] { start with a := 0x42, p := only [.n] })
      (fun t => t.pc == 0x0202 && t.p == only [.z, .c]) = true ∧
    shows (code [0xC9, 0x80] [] { start with a := 0x00, p := only [.v, .d] })
      (fun t => t.pc == 0x0202 && t.p == only [.n, .v, .d]) = true := by decide

/-- Vectors AR45, AR46. -/
theorem test_cpx :
    shows (code [0xE0, 0x05] [] { start with x := 0x05 })
      (fun t => t.pc == 0x0202 && t.p == only [.z, .c]) = true ∧
    shows (code [0xEC, 0x34, 0x12] [(0x1234, 0x01)] { start with x := 0xFF })
      (fun t => t.pc == 0x0203 && t.p == only [.n, .c]) = true := by decide

/-- Vectors AR47, AR48. -/
theorem test_cpy :
    shows (code [0xC0, 0x10] [] { start with y := 0x0F })
      (fun t => t.pc == 0x0202 && t.p == only [.n]) = true ∧
    shows (code [0xC4, 0x20] [(0x0020, 0x30)] { start with y := 0x30 })
      (fun t => t.pc == 0x0202 && t.p == only [.z, .c]) = true := by decide

/-- Vectors SH02, SH03. -/
theorem test_asl :
    shows (code [0x06, 0x10] [(0x0010, 0x80)] start)
      (fun t => t.pc == 0x0202 && t.memRead 0x0010 == 0x00 && t.p == only [.z, .c]) = true ∧
    shows (code [0x0A] [] { start with a := 0x40, p := only [.c] })
      (fun t => t.a == 0x80 && t.pc == 0x0201 && t.p == only [.n]) = true := by decide

/-- Vectors SH04, SH05. -/
theorem test_lsr :
    shows (code [0x4A] [] { start with a := 0x01, p := only [.n] })
      (fun t => t.a == 0x00 && t.pc == 0x0201 && t.p == only [.z, .c]) = true ∧
    shows (code [0x4E, 0x34, 0x12] [(0x1234, 0xFF)] start)
      (fun t => t.pc == 0x0203 && t.memRead 0x1234 == 0x7F && t.p == only [.c]) = true := by decide

/-- Vectors SH07, SH08. -/
theorem test_rol :
    shows (code [0x26, 0x10] [(0x0010, 0x40)] { start with p := only [.c] })
      (fun t => t.pc == 0x0202 && t.memRead 0x0010 == 0x81 && t.p == only [.n]) = true ∧
    shows (code [0x2A] [] { start with a := 0x00, p := only [.c] })
      (fun t => t.a == 0x01 && t.pc == 0x0201 && t.p == only []) = true := by decide

/-- Vectors SH09, SH10. -/
theorem test_ror :
    shows (code [0x6A] [] { start with a := 0x03, p := only [.c] })
      (fun t => t.a == 0x81 && t.pc == 0x0201 && t.p == only [.n, .c]) = true ∧
    shows (code [0x7E, 0x00, 0x30] [(0x3005, 0x01)] { start with x := 0x05 })
      (fun t => t.pc == 0x0203 && t.memRead 0x3005 == 0x00 && t.p == only [.z, .c]) = true := by decide

/-- Vectors SH12, SH14. -/
theorem test_inc :
    shows (code [0xE6, 0x10] [(0x0010, 0xFF)] { start with p := only [.c, .v] })
      (fun t => t.pc == 0x0202 && t.memRead 0x0010 == 0x00 && t.p == only [.v, .z, .c]) = true ∧
    shows (code [0xEE, 0x00, 0x90] [] { start with p := only [.z], cfg := { start.cfg with memSize := 0x8000 } })
      (fun t => t.pc == 0x0203 && t.p == only []) = true := by decide

/-- Vectors SH15, SH16. -/
theorem test_dec :
    shows (code [0xCE, 0x34, 0x12] [(0x1234, 0x00)] { start with p := only [.c] })
      (fun t => t.pc == 0x0203 && t.memRead 0x1234 == 0xFF && t.p == only [.n, .c]) = true ∧
    shows (code [0xC6, 0x10] [(0x0010, 0x01)] start)
      (fun t => t.pc == 0x0202 && t.memRead 0x0010 == 0x00 && t.p == only [.z]) = true := by decide

/-- Vectors SH17, SH18. -/
theorem test_inx :
    shows (code [0xE8] [] { start with x := 0xFF })
      (fun t => t.x == 0x00 && t.pc == 0x0201 && t.p == only [.z]) = true ∧
    shows (code [0xE8] [] { start with x := 0x7F })
      (fun t => t.x == 0x80 && t.pc == 0x0201 && t.p == only [.n]) = true := by decide

/-- Vector SH19. -/
theorem test_iny :
    shows (code [0xC8] [] { start with y := 0xFF })
      (fun t => t.y == 0x00 && t.pc == 0x0201 && t.p == only [.z]) = true := by decide

/-- Vectors SH20, SH21. -/
theorem test_dex :
    shows (code [0xCA] [] { start with x := 0x00 })
      (fun t => t.x == 0xFF && t.pc == 0x0201 && t.p == only [.n]) = true ∧
    shows (code [0xCA] [] { start with x := 0x01 })
      (fun t => t.x == 0x00 && t.pc == 0x0201 && t.p == only [.z]) = true := by decide

/-- Vector SH22. -/
theorem test_dey :
    shows (code [0x88] [] { start with y := 0x80, p := only [.n] })
      (fun t => t.y == 0x7F && t.pc == 0x0201 && t.p == only []) = true := by decide

/-- Vectors ST02, ST03. -/
theorem test_pha :
    shows (code [0x48] [] { start with a := 0x99, sp := 0x00 })
      (fun t => t.sp == 0xFF && t.pc == 0x0201 && t.memRead 0x0100 == 0x99 && t.p == only []) = true ∧
    shows (code [0x48] [] { start with a := 0x11, sp := 0x80, cfg := { start.cfg with stackPage := 3 } })
      (fun t => t.sp == 0x7F && t.pc == 0x0201 && t.memRead 0x0380 == 0x11 && t.p == only []) = true := by decide

/-- Vectors ST04, ST05. -/
theorem test_php :
    shows (code [0x08] [] { start with sp := 0xFD, p := only [.i, .z, .c] })
      (fun t => t.sp == 0xFC && t.pc == 0x0201 && t.memRead 0x01FD == 0x37 && t.p == only [.i, .z, .c]) = true ∧
    shows (code [0x08] [] start)
      (fun t => t.sp == 0xFE && t.pc == 0x0201 && t.memRead 0x01FF == 0x30 && t.p == only []) = true := by decide

/-- Vectors ST07, ST08. -/
theorem test_pla :
    shows (code [0x68] [(0x01FF, 0x00)] { start with sp := 0xFE, a := 0x55 })
      (fun t => t.a == 0x00 && t.sp == 0xFF && t.pc == 0x0201 && t.p == only [.z]) = true ∧
    shows (code [0x68] [(0x0100, 0x80)] { start with sp := 0xFF })
      (fun t => t.a == 0x80 && t.sp == 0x00 && t.pc == 0x0201 && t.p == only [.n]) = true := by decide

/-- Vectors ST09, ST10. -/
theorem test_plp :
    shows (code [0x28] [(0x01FF, 0xFF)] { start with sp := 0xFE })
      (fun t => t.sp == 0xFF && t.pc == 0x0201 && t.p == only [.n, .v, .d, .i, .z, .c]) = true ∧
    shows (code [0x28] [(0x01FF, 0x00)] { start with sp := 0xFE, p := only [.n, .v, .d, .i, .z, .c] })
      (fun t => t.sp == 0xFF && t.pc == 0x0201 && t.p == only []) = true := by decide

/-- Vector ST13. -/
theorem test_clc :
    shows (code [0x18] [] { start with p := only [.c, .z] })
      (fun t => t.pc == 0x0201 && t.p == only [.z]) = true := by decide

/-- Vector ST14. -/
theorem test_sec :
    shows (code [0x38] [] start)
      (fun t => t.pc == 0x0201 && t.p == only [.c]) = true := by decide

/-- Vector ST15. -/
theorem test_cli :
    shows (code [0x58] [] { start with p := only [.i] })
      (fun t => t.pc == 0x0201 && t.p == only []) = true := by decide

/-- Vector ST16. -/
theorem test_sei :
    shows (code [0x78] [] start)
      (fun t => t.pc == 0x0201 && t.p == only [.i]) = true := by decide

/-- Vector ST17. -/
theorem test_cld :
    shows (code [0xD8] [] { start with p := only [.d] })
      (fun t => t.pc == 0x0201 && t.p == only []) = true := by decide

/-- Vector ST18. -/
theorem test_sed :
    shows (code [0xF8] [] start)
      (fun t => t.pc == 0x0201 && t.p == only [.d]) = true := by decide

/-- Vector ST19. -/
theorem test_clv :
    shows (code [0xB8] [] { start with p := only [.v, .n] })
      (fun t => t.pc == 0x0201 && t.p == only [.n]) = true := by decide

/-- Vector ST20. -/
theorem test_nop :
    shows (code [0xEA] [] { start with a := 0x01, x := 0x02, y := 0x03, p := only [.n, .c] })
      (fun t => t.pc == 0x0201 && t.p == only [.n, .c]) = true := by decide

/-- Vectors CT01, CT02. -/
theorem test_bcc :
    shows (code [0x90, 0x04] [] start)
      (fun t => t.pc == 0x0206 && t.p == only []) = true ∧
    shows (code [0x90, 0x04] [] { start with p := only [.c] })
      (fun t => t.pc == 0x0202 && t.p == only [.c]) = true := by decide

/-- Vector CT03. -/
theorem test_bcs :
    shows (code [0xB0, 0xFC] [] { start with pc := 0x0210, p := only [.c] })
      (fun t => t.pc == 0x020E && t.p == only [.c]) = true := by decide

/-- Vectors CT04, CT05. -/
theorem test_beq :
    shows (code [0xF0, 0x10] [] { start with pc := 0x0300, p := only [.z] })
      (fun t => t.pc == 0x0312 && t.p == only [.z]) = true ∧
    shows (code [0xF0, 0x10] [] { start with pc := 0x0300 })
      (fun t => t.pc == 0x0302 && t.p == only []) = true := by decide

/-- Vectors CT06, CT13. -/
theorem test_bne :
    shows (code [0xD0, 0xFD] [] { start with pc := 0x0205 })
      (fun t => t.pc == 0x0204 && t.p == only []) = true ∧
    shows (code [0xD0, 0x80] [] { start with pc := 0x0000 })
      (fun t => t.pc == 0xFF82 && t.p == only []) = true := by decide

/-- Vector CT07. -/
theorem test_bmi :
    shows (code [0x30, 0x7F] [] { start with p := only [.n] })
      (fun t => t.pc == 0x0281 && t.p == only [.n]) = true := by decide

/-- Vectors CT08, CT09. -/
theorem test_bpl :
    shows (code [0x10, 0x80] [] start)
      (fun t => t.pc == 0x0182 && t.p == only []) = true ∧
    shows (code [0x10, 0x80] [] { start with p := only [.n] })
      (fun t => t.pc == 0x0202 && t.p == only [.n]) = true := by decide

/-- Vector CT10. -/
theorem test_bvc :
    shows (code [0x50, 0x02] [] { start with pc := 0xFFFD })
      (fun t => t.pc == 0x0001 && t.p == only []) = true := by decide

/-- Vectors CT11, CT12. -/
theorem test_bvs :
    shows (code [0x70, 0xFE] [] { start with pc := 0x0400, p := only [.v] })
      (fun t => t.pc == 0x0400 && t.p == only [.v]) = true ∧
    shows (code [0x70, 0xFE] [] { start with pc := 0x0400 })
      (fun t => t.pc == 0x0402 && t.p == only []) = true := by decide

/-- Vectors CT14, CT16. -/
theorem test_jmp :
    shows (code [0x4C, 0x00, 0x03] [] start)
      (fun t => t.pc == 0x0300 && t.p == only []) = true ∧
    shows (code [0x6C, 0xFF, 0x02] [(0x0200, 0x99), (0x02FF, 0x34), (0x0300, 0x12)] { start with pc := 0x0400 })
      (fun t => t.pc == 0x1234 && t.p == only []) = true := by decide

/-- Vectors CT18, CT19. -/
theorem test_jsr :
    shows (code [0x20, 0x00, 0x30] [] start)
      (fun t => t.sp == 0xFD && t.pc == 0x3000 && t.memRead 0x01FE == 0x02 && t.memRead 0x01FF == 0x02 && t.p == only []) = true ∧
    shows (code [0x20, 0x00, 0x30] [] { start with sp := 0x00 })
      (fun t => t.sp == 0xFE && t.pc == 0x3000 && t.memRead 0x0100 == 0x02 && t.memRead 0x01FF == 0x02 && t.p == only []) = true := by decide

/-- Vectors CT21, CT22. -/
theorem test_rts :
    shows (code [0x60] [(0x01FE, 0xFF), (0x01FF, 0xFF)] { start with sp := 0xFD })
      (fun t => t.sp == 0xFF && t.pc == 0x0000 && t.p == only []) = true ∧
    shows (code [0x60] [(0x0100, 0x33), (0x0101, 0x12)] { start with sp := 0xFF })
      (fun t => t.sp == 0x01 && t.pc == 0x1234 && t.p == only []) = true := by decide

/-- Vector CT24. -/
theorem test_brk :
    shows (code [0x00, 0xEA] [(0xFFFE, 0x00), (0xFFFF, 0x90)] { start with p := only [.z, .c] })
      (fun t => t.pc == 0x0202 && t.irqReq == some ⟨.brk, 0xFFFE⟩ && t.p == only [.z, .c]) = true := by decide

/-- Vectors CT26, CT27. -/
theorem test_rti :
    shows (code [0x40] [(0x01FD, 0x33), (0x01FE, 0x02), (0x01FF, 0x02)] { start with sp := 0xFC, pc := 0x9000, p := only [.i] })
      (fun t => t.sp == 0xFF && t.pc == 0x0202 && t.p == only [.z, .c]) = true ∧
    shows (code [0x40] [(0x01FD, 0x00), (0x01FE, 0xFF), (0x01FF, 0xFF)] { start with sp := 0xFC, pc := 0x9000, p := only [.i, .n] })
      (fun t => t.sp == 0xFF && t.pc == 0xFFFF && t.p == only []) = true := by decide

/-- Vector LS14. -/
theorem test_unbacked_load :
    shows (code [0xAD, 0x00, 0x90] [] { start with a := 0x12, cfg := { start.cfg with memSize := 0x8000 } })
      (fun t => t.a == 0x00 && t.pc == 0x0203 && t.p == only [.z]) = true := by decide

/-- Vector LS36. -/
theorem test_top_of_memory :
    shows (code [0xA9] [(0x0000, 0x42)] { start with pc := 0xFFFF })
      (fun t => t.a == 0x42 && t.pc == 0x0001 && t.p == only []) = true := by decide

/-! ## Interrupts, decode errors, reset, host -/

/-- Vectors IN01, IN03: entry, with the vectors at 0x9000 and 0x8000. -/
theorem test_service :
    shows ((code [0xEA] [(0xFFFF, 0x90)] { start with p := only [.c] }).raise false)
      (fun t => t.pc == 0x9000 && t.sp == 0xFC && t.p == only [.i, .c] && t.memRead 0x01FF == 0x02 &&
        t.memRead 0x01FE == 0x00 && t.memRead 0x01FD == 0x21 && t.irqReq == none) = true ∧
    shows ((code [0xEA] [(0xFFFB, 0x80)] { start with p := only [.i] }).raise true)
      (fun t => t.pc == 0x8000 && t.memRead 0x01FD == 0x24) = true := by decide

/-- Vector IN02: a masked IRQ waits and the instruction runs. -/
theorem test_masked_irq :
    shows ((code [0xEA] [] { start with p := only [.i] }).raise false)
      (fun t => t.pc == 0x0201 && t.irqReq == some ⟨.irq, 0xFFFE⟩) = true := by decide

/-- Vector CT23, second step: the entry of BRK, Break marker 1. -/
theorem test_service_brk :
    shows ((code [] [(0xFFFF, 0x90)] { start with pc := 0x0202, p := only [.z, .c] }).request .brk)
      (fun t => t.pc == 0x9000 && t.memRead 0x01FF == 0x02 && t.memRead 0x01FE == 0x02 && t.memRead 0x01FD == 0x33) = true := by
  decide

/-- Vector IN12: the stack wraps inside page 2. -/
theorem test_service_stack_wrap :
    shows ((code [0xEA] [] { start with pc := 0x0400, sp := 0x01, p := only [.n, .v], cfg := { start.cfg with stackPage := 2 } }).raise true)
      (fun t => t.sp == 0xFE && t.memRead 0x0201 == 0x04 && t.memRead 0x0200 == 0x00 && t.memRead 0x02FF == 0xE0) = true := by decide

/-- Vectors DE01, DE02. -/
theorem test_decode_error :
    dispatch (code [0x02] [] { start with a := 0x07 }) = (code [0x02] [] { start with a := 0x07 }, .decodeError 0x0200 0x02) ∧
    (dispatch (code [0x02] [] { start with cfg := { start.cfg with decodeStrict := true } })).1.halted = true := by decide

/-- Vector IN10: a serviceable request wins over an illegal byte. -/
theorem test_request_before_decode_error :
    shows ((code [0x02] [(0xFFFB, 0x80)] start).raise true) (fun t => t.pc == 0x8000) = true := by decide

/-- Vectors RS01, RS02. -/
theorem test_reset :
    HostOp.reset.apply (code [] [(0xFFFD, 0x80)] { start with a := 0x11, sp := 0x40, p := only [.n, .d, .c] }) =
      { code [] [(0xFFFD, 0x80)] start with a := 0x11, sp := 0xFD, pc := 0x8000, p := only [.n, .d, .i, .c] } ∧
    (HostOp.reset.apply { start with cfg := { start.cfg with memSize := 0x8000 } }).pc = 0x0000 := by decide

/-- R43, R44: what the spec says of the state after construction and Reset. -/
theorem test_reset_state :
    State.reset.pc = 0 ∧ State.reset.sp = 0xFD ∧ State.reset.p.i = true ∧ State.reset.irqReq = none ∧
    State.reset.halted = false ∧ State.reset.cyc = 0 ∧ State.reset.mem = [] := by decide

/-- R283: an image that reaches the top is cut there, and nothing wraps to address 0. -/
theorem test_load_cut :
    (HostOp.load [0x11, 0x22, 0x33] 0xFFFE).apply start =
      { start with mem := [(0xFFFE, 0x11), (0xFFFF, 0x22)], pc := 0x0000, sp := 0xFD, p := only [.i] } := by decide

/-- R248, vectors IN05, IN06, IN07, IN08: NMI over IRQ, IRQ and NMI dropped over NMI, BRK over IRQ. -/
theorem test_collisions :
    ((start.raise false).raise true).irqReq = some ⟨.nmi, 0xFFFA⟩ ∧
    ((start.raise true).raise false).irqReq = some ⟨.nmi, 0xFFFA⟩ ∧
    ((start.raise false).request .brk).irqReq = some ⟨.brk, 0xFFFE⟩ ∧
    ((start.request .brk).raise true).irqReq = some ⟨.brk, 0xFFFE⟩ := by decide

/-- Writing the byte an unlisted address holds removes the cell; memory stays in order. -/
theorem test_memory_canonical :
    (((start.memWrite 0x10 0x01).memWrite 0x08 0x02).memWrite 0x10 0x00).mem = [(8, 0x02)] ∧
    ((start.memWrite 0x10 0x01).memWrite 0x08 0x02).mem = [(8, 0x02), (16, 0x01)] := by decide

/-- R302 and R301: LDA abs 4, STA abs,X 5, INC abs,X 7, JSR 6, a branch 2 and 3, BRK's own step 0. -/
theorem test_cycles :
    cycleCost (.ldaAbs 0) start = 4 ∧ cycleCost (.staAbx 0) start = 5 ∧ cycleCost (.incAbx 0) start = 7 ∧
    cycleCost (.jsr 0) start = 6 ∧ cycleCost (.bcs 0) start = 2 ∧ cycleCost (.bcc 0) start = 3 ∧ cycleCost (.brk 0) start = 0 := by decide

/-- The opcode-table numbering: LDA $1234 as a 24-bit and as an 8-bit word, and a step that runs it first after reset. -/
theorem test_table_word :
    decodeTableWord 24 0x1234AD = some (.ldaAbs 0x1234) ∧ decodeTableWord 8 0xAD = some (.ldaAbs 0x0000) ∧
    decodeTableWord 8 0x02 = none ∧
    shows (State.reset.withFetchWord 16 0x7FA9) (fun t => t.a == 0x7F && t.pc == 0x0002) = true := by decide

/-! ## Witnesses: states and operands that meet the hypotheses of the statements -/

theorem witness_DecodedBytesAreTheEncoding : decode [0x8D, 0xFF, 0xFF, 0x01] = .instr (.staAbs 0xFFFF) [0x01] := by decide

/-- The lowest and highest bytes on the list and the lowest and highest off it. -/
theorem witness_IllegalBytesAreExactlyTheListed :
    (0x02 : Byte) ∈ illegalOpcodes ∧ (0xFF : Byte) ∈ illegalOpcodes ∧ (0x00 : Byte) ∉ illegalOpcodes ∧ (0xFE : Byte) ∉ illegalOpcodes := by
  decide

theorem witness_OpcodeAloneFixesFormatAndLength :
    encode (.jmpInd 0x1234) = 0x6C :: [0x34, 0x12] ∧ encode (.jmpInd 0xFFFF) = 0x6C :: [0xFF, 0xFF] := by decide

/-- Once with an empty slot, once with a masked IRQ. -/
theorem witness_StepRunsTheDecodedInstruction :
    (let s := code [0xEA] [] start
     s.halted = false ∧ Forms.NothingDue s ∧ decode (Forms.fetched s) = .instr .nop [0x00, 0x00] ∧ exec .nop s = .next (s.setPc 0x0201)) ∧
    (let s := (code [0xEA] [] { start with p := only [.i] }).raise false
     s.halted = false ∧ Forms.NothingDue s) :=
  ⟨⟨rfl, .inl rfl, by decide, rfl⟩, rfl, .inr ⟨_, rfl, rfl, rfl⟩⟩

theorem witness_ServiceableRequestIsEntered :
    (start.raise true).irqReq = some ⟨.nmi, 0xFFFA⟩ ∧ (start.request .brk).irqReq = some ⟨.brk, 0xFFFE⟩ ∧
    (start.raise false).irqReq = some ⟨.irq, 0xFFFE⟩ ∧ (start.raise false).p.i = false ∧ (start.raise false).halted = false := by decide

theorem witness_IllegalByteIsADecodeError :
    (let s := code [0xFF] [] start
     s.halted = false ∧ Forms.NothingDue s ∧ s.memRead s.pc ∈ illegalOpcodes) ∧
    (let s := (code [0x02] [] { start with p := only [.i], cfg := { start.cfg with decodeStrict := true } }).raise false
     s.halted = false ∧ Forms.NothingDue s ∧ s.memRead s.pc ∈ illegalOpcodes) :=
  ⟨⟨rfl, .inl rfl, by decide⟩, rfl, .inr ⟨_, rfl, rfl, rfl⟩, by decide⟩

theorem witness_HaltedUntilReset :
    (start.setHalted true).halted = true ∧ (HostOp.reset.apply (start.setHalted true)).halted = false ∧
    ((HostOp.load [] 0).apply (start.setHalted true)).halted = false ∧ (HostOp.pop8.apply (start.setHalted true)).halted = true := by
  decide

/-- A two-byte and a three-byte instruction, the second across the top of the address space. -/
theorem witness_FetchedOperandIsTheByteAtItsAddress :
    (decode (Forms.fetched (code [0xA9, 0x05] [] start)) = .instr (.ldaImm 0x05) [0x00] ∧ encode (.ldaImm 0x05) = [0xA9, 0x05]) ∧
    (decode (Forms.fetched (code [0xAD, 0x34, 0x12] [] { start with pc := 0xFFFE })) = .instr (.ldaAbs 0x1234) [] ∧
      encode (.ldaAbs 0x1234) = [0xAD, 0x34, 0x12]) := by decide

/-- The last backed address and the first unbacked one of a 32 KiB machine. -/
theorem witness_ReadAfterWrite :
    (let s : State := { start with cfg := { start.cfg with memSize := 0x8000 } }
     (0x7FFF : Word).toNat < s.cfg.memSize ∧ s.cfg.memSize ≤ (0x8000 : Word).toNat ∧ (0x7FFF : Word) ≠ 0x8000) := by decide

/-- The word at the top of a full memory, whose high byte is at address 0. -/
theorem witness_WordAccessIsTwoBytes :
    (0xFFFF : Word).toNat < start.cfg.memSize ∧ (BitVec.ofNat 16 (((0xFFFF : Word).toNat + 1) % 65536)).toNat < start.cfg.memSize := by decide

/-- The highest stack page, in a full memory. -/
theorem witness_StackPushAndPop :
    (let s : State := { start with cfg := { start.cfg with stackPage := 0xFF } }
     s.cfg.stackPage.toNat * 256 + 255 < s.cfg.memSize) := by decide

theorem witness_LoadsPutTheOperand :
    Forms.ldaRows (.izy 0xFF) = some (0xB1, .ldaIzy 0xFF) ∧ Forms.ldxRows (.zpy 0x00) = some (0xB6, .ldxZpy 0x00) ∧
    Forms.ldyRows (.abx 0xFFFF) = some (0xBC, .ldyAbx 0xFFFF) := by decide

theorem witness_StoresPutTheRegister :
    Forms.staRows (.izx 0xFF) = some (0x81, .staIzx 0xFF) ∧ Forms.stxRows (.zpy 0xFF) = some (0x96, .stxZpy 0xFF) ∧
    Forms.styRows (.abs 0xFFFF) = some (0x8C, .styAbs 0xFFFF) := by decide

theorem witness_LogicalResults :
    Forms.andRows (.imm 0x0F) = some (0x29, .andImm 0x0F) ∧ Forms.oraRows (.zp 0x00) = some (0x05, .oraZp 0x00) ∧
    Forms.eorRows (.aby 0x1234) = some (0x59, .eorAby 0x1234) := by decide

theorem witness_BitTestsTheOperand :
    Forms.bitRows (.zp 0x10) = some (0x24, .bitZp 0x10) ∧ Forms.bitRows (.abs 0xFFFF) = some (0x2C, .bitAbs 0xFFFF) := by decide

theorem witness_BinaryAdcResult : Forms.adcRows (.imm 0x01) = some (0x69, .adcImm 0x01) ∧ start.p.d = false := by decide

theorem witness_BinarySbcResult : Forms.sbcRows (.abx 0x1234) = some (0xFD, .sbcAbx 0x1234) ∧ start.p.d = false := by decide

/-- The largest decimal operands. -/
theorem witness_DecimalAdcOnBcd :
    (let s : State := { start with a := 0x99, p := only [.d, .c] }
     Forms.adcRows (.imm 0x99) = some (0x69, .adcImm 0x99) ∧ s.p.d = true ∧ Forms.isBcd s.a ∧ Forms.isBcd (operand (.imm 0x99) s)) :=
  ⟨rfl, rfl, ⟨by decide, by decide⟩, by decide, by decide⟩

/-- A difference below zero. -/
theorem witness_DecimalSbcOnBcd :
    (let s : State := { start with a := 0x00, p := only [.d] }
     Forms.sbcRows (.imm 0x99) = some (0xE9, .sbcImm 0x99) ∧ s.p.d = true ∧ Forms.isBcd s.a ∧ Forms.isBcd (operand (.imm 0x99) s)) :=
  ⟨rfl, rfl, ⟨by decide, by decide⟩, by decide, by decide⟩

/-- Operands that are not BCD, and the numbers that vectors AR19, AR38 and AR33 give for the two functions. -/
theorem witness_DecimalByTheSpecsDecisions :
    (let s : State := { start with a := 0xFF, p := only [.d, .c] }
     Forms.adcRows (.imm 0xFF) = some (0x69, .adcImm 0xFF) ∧ Forms.sbcRows (.imm 0x0F) = some (0xE9, .sbcImm 0x0F) ∧
     s.p.d = true ∧ s.cfg.decimalOpen = false) ∧
    Forms.decimalSum 0xFF 0xFF 1 = (0x55, true) ∧ Forms.decimalDifference 0x00 0x0F 1 = (0x9B, false) ∧
    Forms.decimalDifference 0x10 0x07 1 = (0x03, true) := by decide

/-- Both settings of `decimalOpen` meet the hypotheses. -/
theorem witness_DecimalAlwaysCompletes :
    Forms.adcRows (.imm 0xFF) = some (0x69, .adcImm 0xFF) ∧ Forms.sbcRows (.imm 0xFF) = some (0xE9, .sbcImm 0xFF) ∧
    (let s : State := { start with p := only [.d], cfg := { start.cfg with decimalOpen := true } }
     s.p.d = true ∧ s.cfg.decimalOpen = true) := by decide

theorem witness_AdcThenSbcRestoresA :
    ∃ t u, start.p.d = false ∧ start.p.c = false ∧ exec (.adcImm 0xFF) start = .next t ∧
      exec (.sbcImm 0xFF) { t with p := { t.p with c := true } } = .next u := ⟨_, _, rfl, rfl, rfl, rfl⟩

theorem witness_ComparesWriteCZN :
    Forms.cmpRows (.zpx 0x10) = some (0xD5, .cmpZpx 0x10) ∧ Forms.cpxRows (.imm 0x05) = some (0xE0, .cpxImm 0x05) ∧
    Forms.cpyRows (.abs 0x1234) = some (0xCC, .cpyAbs 0x1234) := by decide

theorem witness_ShiftsAndRotates :
    Forms.aslRows (.zp 0x10) = some (0x06, .aslZp 0x10) ∧ Forms.lsrRows (.zpx 0x10) = some (0x56, .lsrZpx 0x10) ∧
    Forms.rolRows (.abs 0x1234) = some (0x2E, .rolAbs 0x1234) ∧ Forms.rorRows (.abx 0x3000) = some (0x7E, .rorAbx 0x3000) := by decide

theorem witness_IncDecMemory :
    Forms.incRows (.zp 0x10) = some (0xE6, .incZp 0x10) ∧ Forms.decRows (.abx 0x1234) = some (0xDE, .decAbx 0x1234) := by decide

theorem witness_JsrThenRtsReturns :
    ∃ t u, start.cfg.stackPage.toNat * 256 + 255 < start.cfg.memSize ∧ exec (.jsr 0x3000) start = .next t ∧ exec .rts t = .next u :=
  ⟨_, _, by decide, rfl, rfl⟩

theorem witness_RequestCollisionPolicy :
    start.irqReq = none ∧ (start.raise false).irqReq = some ⟨.irq, 0xFFFE⟩ ∧ (start.raise true).irqReq = some ⟨.nmi, 0xFFFA⟩ ∧
    (start.request .brk).irqReq = some ⟨.brk, 0xFFFE⟩ := by decide

theorem witness_BrkTakesTwoSteps : start.halted = false ∧ start.irqReq = none ∧ start.memRead start.pc = 0 := by decide

theorem witness_RtiReversesService :
    ∃ t, start.cfg.stackPage.toNat * 256 + 255 < start.cfg.memSize ∧ exec .rti (service ⟨.nmi, 0xFFFA⟩ start) = .next t :=
  ⟨_, by decide, rfl⟩

/-- The smallest size, and one above the clamp. -/
theorem witness_ConstructionClampsTheSize (u : PowerOn) :
    (∃ s, construct 1 HwConfig.default u = some s) ∧ ∃ s, construct 65537 HwConfig.default u = some s := ⟨⟨_, rfl⟩, _, rfl⟩

/-- The last byte that fits below 65536, the last that fits below MEM_SIZE, and the addresses next to the image. -/
theorem witness_LoadCopiesTheImageAndResets :
    (([0x11, 0x22] : List Byte)[0]? = some 0x11 ∧ (0xFFFF : Word).toNat + 0 < 65536 ∧ (0xFFFF : Word).toNat + 0 < start.cfg.memSize) ∧
    (([0x11, 0x22] : List Byte)[1]? = some 0x22 ∧ (0x7FFE : Word).toNat + 1 < 0x8000) ∧
    ((0x01FF : Word).toNat < (0x0200 : Word).toNat ∧ (0x0200 : Word).toNat + ([0x11, 0x22] : List Byte).length ≤ (0x0202 : Word).toNat) := by
  decide

/-- The invariant holds at reset, the step from reset answers a next state, and the invariant is not true of every state. -/
theorem witness_EveryEventKeepsTheInvariant :
    State.reset.Inv ∧ (∃ t, step State.reset = .next t) ∧ ¬ ({ State.reset with halted := true } : State).Inv :=
  ⟨by decide, ⟨_, rfl⟩, by decide⟩

theorem witness_InvariantHoldsAtTheStart (u : PowerOn) : ∃ s, construct 65536 HwConfig.default u = some s := ⟨_, rfl⟩

theorem witness_NoStepChangesTheConfiguration : ∃ t, step start = .next t := ⟨_, rfl⟩

/-- One instruction outside each list. -/
theorem witness_RegisterFrame :
    (∃ t, exec (.stxZp 0x10) start = .next t) ∧ (Instr.stxZp 0x10).mnemonic ∉ Forms.writesA ∧ (Instr.stxZp 0x10).format ≠ .acc ∧
    (Instr.stxZp 0x10).mnemonic ∉ Forms.writesX ∧ (Instr.stxZp 0x10).mnemonic ∉ Forms.writesY ∧
    (Instr.stxZp 0x10).mnemonic ∉ Forms.writesS ∧ (Instr.stxZp 0x10).mnemonic ≠ .brk ∧
    (Instr.stxZp 0x10).mnemonic ≠ .adc ∧ (Instr.stxZp 0x10).mnemonic ≠ .sbc :=
  ⟨⟨_, rfl⟩, by decide⟩

theorem witness_FlagFrame :
    (∃ t, exec (.staZp 0x10) start = .next t) ∧ (Instr.staZp 0x10).mnemonic ∉ Forms.writesC ∧
    (Instr.staZp 0x10).mnemonic ∉ Forms.writesZN ∧ (Instr.staZp 0x10).mnemonic ∉ Forms.writesI ∧
    (Instr.staZp 0x10).mnemonic ∉ Forms.writesD ∧ (Instr.staZp 0x10).mnemonic ∉ Forms.writesV :=
  ⟨⟨_, rfl⟩, by decide⟩

/-- A store, next to the byte it stores to, and a push at the bottom of the stack page. -/
theorem witness_MemoryFrame :
    (∃ t, exec (.staZp 0x10) start = .next t) ∧ (0x0011 : Word) ∉ Forms.storedTo (.staZp 0x10) start ∧
    (0x0010 : Word) ∈ Forms.storedTo (.staZp 0x10) start ∧ (0x0100 : Word) ∈ Forms.storedTo .pha { start with sp := 0 } ∧
    Forms.storedTo (.jsr 0x3000) { start with sp := 0 } = [0x0100, 0x01FF] :=
  ⟨⟨_, rfl⟩, by decide⟩

theorem witness_MaskedIrqWaits :
    (let s := ({ start with p := only [.i] } : State).raise false
     s.irqReq = some ⟨.irq, 0xFFFE⟩ ∧ s.p.i = true ∧ ∃ t, step s = .next t) := ⟨rfl, rfl, _, rfl⟩

/-- `JMP $0200` at 0x0200 (vector CT17), a `JMP` at 0x0200 through a pointer at a page's end that holds 0x0200 (R219), a taken
`BVS` to itself (vector CT11); not final are that `BVS` with V clear and the indirect jump whose pointer holds 0. -/
theorem witness_FinalStateStaysFinal :
    (code [0x4C, 0x00, 0x02] [] start).finalAt 0x0200 = true ∧
    (code [0x6C, 0xFF, 0x30] [(0x3100, 0x02)] start).finalAt 0x0200 = true ∧
    (code [0x70, 0xFE] [] { start with pc := 0x0400, p := only [.v] }).finalAt 0x0400 = true ∧
    (code [0x70, 0xFE] [] { start with pc := 0x0400 }).finalAt 0x0400 = false ∧
    (code [0x6C, 0xFF, 0x30] [] start).finalAt 0x0200 = false := by decide

/-- S and pc at construction other than what Reset writes. -/
theorem witness_ResetStateIsConstructThenReset :
    (let u : PowerOn := ⟨0, 0, 0, 0x12, 0x3456, only []⟩
     u.a = 0 ∧ u.x = 0 ∧ u.y = 0 ∧ u.p = ⟨false, false, false, false, false, false⟩ ∧ u.sp ≠ 0xFD ∧ u.pc ≠ 0) := by decide

/-- R290, R291 and D5: a word poked at 0xFFFF wraps (R54), a push with S = 0 wraps within the stack page (R61, R63), P loses bits
5 and 4, and the setter of a vector writes that vector alone; R289 and D20: the inspection of a clear P. Hand computed. -/
theorem test_host_setters :
    HostOp.apply (.pokeWord 0xFFFF 0x1234) start = code [] [(0xFFFF, 0x34), (0x0000, 0x12)] start ∧
    HostOp.apply (.push16 0x1234) { start with sp := 0x00 } =
      code [] [(0x0100, 0x12), (0x01FF, 0x34)] { start with sp := 0xFE } ∧
    HostOp.apply (.setP 0x71) start = { start with p := only [.v, .c] } ∧
    HostOp.apply (.setVecIrq 0x0300) start = { start with cfg := { start.cfg with vecIrq := 0x0300 } } ∧
    { start with p := only [] }.inspectP = 0x20 := by decide

end Sys2Proof.Tests
end

section
/-! PROOFS. The invariant of Safety.lean along every event and at the start (R7, R38, R40, R44, R52), and `State.reset` as
construction followed by Reset (R43, R44, R280). -/

namespace Sys2Proof.Machine

/-! What an instruction can do to the fields the invariant reads. -/

/-- Two states agree in every field the invariant reads: configuration, memory and halted latch. -/
abbrev State.SameStorage (s t : State) : Prop := t.cfg = s.cfg ∧ t.mem = s.mem ∧ t.halted = s.halted

theorem State.Inv.of_sameStorage {s t : State} (hs : s.Inv) (h : s.SameStorage t) : t.Inv := by
  obtain ⟨hcfg, hmem, hhalted⟩ := h
  exact hs.congr hcfg hmem hhalted

theorem sameStorage_drawDecimal (s : State) : s.SameStorage (drawDecimal s) := by
  obtain ⟨n, hn⟩ := drawDecimal_eq s
  simp [State.SameStorage, hn]

theorem sameStorage_adc (m : Mode) (s : State) : s.SameStorage (adc m s) := sameStorage_drawDecimal s

theorem sameStorage_sbc (m : Mode) (s : State) : s.SameStorage (sbc m s) := sameStorage_drawDecimal s

theorem sameStorage_request (s : State) (k : IrqKind) : s.SameStorage (s.request k) := by
  simp [State.SameStorage]

/-- Configuration, memory and latch after an instruction are those of the state itself (loads, arithmetic, flags, branches),
of the state with one byte written (stores, read-modify-write, PHA, PHP), or of the state with a word pushed (JSR). -/
theorem exec_storage_cases {i : Instr} {s t : State} (h : exec i s = .next t) :
    s.SameStorage t ∨ (∃ a v, (s.memWrite a v).SameStorage t) ∨ (∃ w, (s.push16 w).SameStorage t) := by
  cases i with
  | adcImm | adcZp | adcZpx | adcAbs | adcAbx | adcAby | adcIzx | adcIzy => cases h; exact .inl (sameStorage_adc _ s)
  | sbcImm | sbcZp | sbcZpx | sbcAbs | sbcAbx | sbcAby | sbcIzx | sbcIzy => cases h; exact .inl (sameStorage_sbc _ s)
  | brk => cases h; exact .inl (sameStorage_request (s.advance 2) .brk)
  | staZp | staZpx | staAbs | staAbx | staAby | staIzx | staIzy | stxZp | stxZpy | stxAbs | styZp | styZpx | styAbs
  | aslZp | aslZpx | aslAbs | aslAbx | lsrZp | lsrZpx | lsrAbs | lsrAbx
  | rolZp | rolZpx | rolAbs | rolAbx | rorZp | rorZpx | rorAbs | rorAbx
  | incZp | incZpx | incAbs | incAbx | decZp | decZpx | decAbs | decAbx | pha | php =>
    cases h; exact .inr (.inl ⟨_, _, rfl, rfl, rfl⟩)
  | jsr => cases h; exact .inr (.inr ⟨_, rfl, rfl, rfl⟩)
  | _ => cases h; exact .inl ⟨rfl, rfl, rfl⟩

/-! Every event keeps the invariant. -/

theorem exec_keeps_inv {i : Instr} {s t : State} (hs : s.Inv) (h : exec i s = .next t) : t.Inv := by
  obtain h | ⟨a, v, h⟩ | ⟨w, h⟩ := exec_storage_cases h
  · exact hs.of_sameStorage h
  · exact (hs.memWrite a v).of_sameStorage h
  · exact (hs.push16 w).of_sameStorage h

theorem step_keeps_inv {s t : State} (hs : s.Inv) (h : step s = .next t) : t.Inv := by
  obtain ⟨-, ⟨r, -, rfl⟩ | ⟨i, rest, u, -, -, hu, rfl⟩⟩ := step_cases h
  · exact hs.service r
  · exact (exec_keeps_inv hs hu).congr rfl rfl rfl

/-- A decode error sets the latch in strict mode only (R241, R242). -/
theorem State.Inv.afterDecodeError {s : State} (hs : s.Inv) : s.afterDecodeError.Inv := by
  have ⟨hsize, hwf, hbacked, _⟩ := hs
  unfold State.afterDecodeError
  split
  · next hstrict => exact ⟨hsize, hwf, hbacked, fun _ => hstrict⟩
  · exact hs

/-- A dispatch leaves the next state of the step, and where the step faults the state itself or the state after a decode
error (R241, R242, R250). -/
theorem dispatch_state_cases (s : State) :
    step s = .next (dispatch s).1 ∨ (dispatch s).1 = s ∨ (dispatch s).1 = s.afterDecodeError := by
  cases hc : s.choice with
  | halted => simp [dispatch, hc]
  | service r => simp [dispatch, step, hc]
  | illegal addr byte => simp [dispatch, hc]
  | run i =>
    obtain ⟨u, hu⟩ := exec_answers_next i s
    simp [dispatch, step, hc, hu, retire]

theorem dispatch_keeps_inv {s : State} (hs : s.Inv) : (dispatch s).1.Inv := by
  obtain h | h | h := dispatch_state_cases s
  · exact step_keeps_inv hs h
  · rwa [h]
  · rw [h]; exact hs.afterDecodeError

/-- The host's setters of the configuration keep the size and the mode (R290). -/
theorem State.Inv.setCfg {s : State} (hs : s.Inv) {c : HwConfig} (hm : c.memSize = s.cfg.memSize)
    (hd : c.decodeStrict = s.cfg.decodeStrict) : (s.setCfg c).Inv := by
  simpa [State.Inv, hm, hd] using hs

theorem hostOp_keeps_inv {s : State} (hs : s.Inv) (op : HostOp) : (op.apply s).Inv := by
  cases op with
  | reset => exact hs.resetOp
  | load image offset => exact (hs.loadBytes offset _).resetOp
  | raise nmi => exact hs.request _
  | poke a v => exact hs.memWrite a v
  | pokeWord a v => exact (hs.memWrite a _).memWrite (a + 1) _
  | push8 v => exact hs.push8 v
  | push16 v => exact hs.push16 v
  | setStackPage | setVecNmi | setVecReset | setVecIrq => exact hs.setCfg rfl rfl
  | pop8 | pop16 | setA | setX | setY | setS | setPc | setP | setFlag => exact hs.congr rfl rfl rfl

/-- Settles O52: an instruction writes memory through `memWrite` alone and never the configuration or the latch, which only
a decode error in strict mode sets. -/
theorem everyEventKeepsTheInvariant : Obligations.EveryEventKeepsTheInvariant := by
  refine ⟨fun s t hs h => step_keeps_inv hs h, fun s e hs => ?_⟩
  cases e with
  | dispatch => exact dispatch_keeps_inv hs
  | host op => exact hostOp_keeps_inv hs op

/-! The start. -/

/-- A construction that answers a core was asked for a size other than 0, and clamped it (R243, R282). -/
theorem construct_eq_some {n : Nat} {c : HwConfig} {u : PowerOn} {s : State} (h : construct n c u = some s) :
    n ≠ 0 ∧ s.cfg.memSize = min n 65536 ∧ s.mem = [] ∧ s.halted = false := by
  unfold construct at h
  split at h
  · cases h
  · next hn => cases h; exact ⟨hn, rfl, rfl, rfl⟩

theorem construct_inv {n : Nat} {c : HwConfig} {u : PowerOn} {s : State} (h : construct n c u = some s) : s.Inv := by
  obtain ⟨hn, hsize, hmem, hhalted⟩ := construct_eq_some h
  refine ⟨by omega, ?_, ?_, ?_⟩ <;> simp [Memory.wf, hmem, hhalted]

/-- Settles O53: construction clamps the size into 1..65536, lists no cell and clears the latch. -/
theorem invariantHoldsAtTheStart : Obligations.InvariantHoldsAtTheStart :=
  ⟨by decide, fun _ _ _ _ h => construct_inv h⟩

/-- A memory that lists nothing reads 0 everywhere (R40, R44). -/
theorem State.memRead_of_mem_nil {s : State} (h : s.mem = []) (a : Word) : s.memRead a = 0 := by
  simp [State.memRead, h, Memory.get, Memory.unlisted]

theorem State.memRead16_of_mem_nil {s : State} (h : s.mem = []) (a : Word) : s.memRead16 a = 0 := by
  simp [State.memRead16, State.memRead_of_mem_nil h, leWord]

/-- Reset of a machine with empty memory sends pc to 0, whatever the reset vector's address is (R280). -/
theorem State.resetOp_of_mem_nil {s : State} (h : s.mem = []) :
    s.resetOp = { s with pc := 0, sp := s.cfg.resetS, p := { s.p with i := true }, halted := false } := by
  rw [State.resetOp, State.memRead16_of_mem_nil h]
  rfl

/-- Settles O60: Reset overwrites S, pc and I of the constructed state, and the zero memory holds the reset vector 0. -/
theorem resetStateIsConstructThenReset : Obligations.ResetStateIsConstructThenReset := by
  refine ⟨?_, rfl, rfl, rfl, rfl, fun a => State.memRead_of_mem_nil rfl a⟩
  rintro ⟨a, x, y, sp, pc, p⟩ rfl rfl rfl rfl
  exact congrArg some (State.resetOp_of_mem_nil rfl)

end Sys2Proof.Machine
end

section
/-! PROOFS. The flags: the byte view of P and back (R27, R28, R289), and what `SetZN` writes (R29). -/

namespace Sys2Proof.Machine

/-- The weights of R27 sum to at most 255, so the byte loses none of them. -/
theorem Flags.toByte_toNat (p : Flags) (b : Bool) :
    (p.toByte b).toNat = p.n.toNat * 128 + p.v.toNat * 64 + 32 + b.toNat * 16 + p.d.toNat * 8 + p.i.toNat * 4
      + p.z.toNat * 2 + p.c.toNat := by
  have hn := p.n.toNat_le
  have hv := p.v.toNat_le
  have hb := b.toNat_le
  have hd := p.d.toNat_le
  have hi := p.i.toNat_le
  have hz := p.z.toNat_le
  have hc := p.c.toNat_le
  rw [Flags.toByte, BitVec.toNat_ofNat]
  omega

/-- `PWrite` after `PByte` gives the flags back, whatever the Break marker (R27, R28). -/
@[simp] theorem Flags.ofByte_toByte (p : Flags) (b : Bool) : Flags.ofByte (p.toByte b) = p := by
  have all_bytes : ∀ n v d i z c b : Bool, Flags.ofByte (Flags.toByte ⟨n, v, d, i, z, c⟩ b) = ⟨n, v, d, i, z, c⟩ := by
    decide
  exact all_bytes p.n p.v p.d p.i p.z p.c b

/-- Settles O11: the byte by its weights, the flags from their bits, and the round trip. -/
theorem flagByteByBits : Obligations.FlagByteByBits :=
  fun p b _ s => ⟨p.toByte_toNat b, rfl, p.ofByte_toByte b, s.p.toByte_toNat false⟩

/-- Bit 7 of a byte is its sign: the byte is at least 128 (R29). -/
theorem bit_seven_eq_true_iff (v : Byte) : bit v 7 = true ↔ 128 ≤ v.toNat := by
  have hmsb : bit v 7 = decide (2 ^ (8 - 1) ≤ v.toNat) := v.msb_eq_decide
  simp [hmsb]

/-- Settles O12: Z compares the value with 0, N is its bit 7, and no other flag is written. -/
theorem setZNWritesBothFlags : Obligations.SetZNWritesBothFlags := by
  intro p v
  have hz : (p.withZN v).z = true ↔ v = 0 := beq_iff_eq
  exact ⟨hz, bit_seven_eq_true_iff v, rfl, rfl, rfl, rfl⟩

end Sys2Proof.Machine
end

section
/-! PROOFS. Which registers an instruction writes (R36 to R39, R42). -/

namespace Sys2Proof.Machine

/-- Two states agree in everything but pc, flags and memory. -/
abbrev State.SameRegisters (s t : State) : Prop :=
  t.a = s.a ∧ t.x = s.x ∧ t.y = s.y ∧ t.sp = s.sp ∧
  t.irqReq = s.irqReq ∧ t.draws = s.draws ∧ t.cfg = s.cfg ∧ t.halted = s.halted ∧ t.cyc = s.cyc

theorem sameRegisters_sta (m : Mode) (s : State) : s.SameRegisters (sta m s) := by simp [State.SameRegisters, sta]

theorem sameRegisters_stx (m : Mode) (s : State) : s.SameRegisters (stx m s) := by simp [State.SameRegisters, stx]

theorem sameRegisters_sty (m : Mode) (s : State) : s.SameRegisters (sty m s) := by simp [State.SameRegisters, sty]

theorem sameRegisters_shiftMem (f : Byte → ShiftOut) (m : Mode) (s : State) : s.SameRegisters (shiftMem f m s) := by
  simp [State.SameRegisters, shiftMem]

theorem sameRegisters_modifyMem (f : Byte → Byte) (m : Mode) (s : State) : s.SameRegisters (modifyMem f m s) := by
  simp [State.SameRegisters, modifyMem]

theorem sameRegisters_push8 (s : State) (v : Byte) : (s.setSp (s.sp - 1)).SameRegisters (s.push8 v) := by
  simp [State.SameRegisters]

theorem sameRegisters_push16 (s : State) (w : Word) : (s.setSp (s.sp - 1 - 1)).SameRegisters (s.push16 w) := by
  simp [State.SameRegisters, State.push16]

/-- ADC and SBC write A and, where they count free values, the counter (log 7). -/
theorem sameRegisters_writeAcc_drawDecimal (o : AccOut) (s : State) :
    ((s.setA o.r).setDraws (drawDecimal s).draws).SameRegisters (writeAcc o (drawDecimal s)) := by
  obtain ⟨n, hn⟩ := drawDecimal_eq s
  simp [State.SameRegisters, writeAcc, hn]

/-- `t` differs from `s`, apart from pc, flags and memory, only in the registers that `i` may write (R42): none, one of A, X,
Y, S, both S and A for PLA, the slot for BRK, or A and the counter of free values for ADC and SBC. -/
inductive RegisterEffect (i : Instr) (s t : State) : Prop where
  | keeps (h : s.SameRegisters t)
  | writesA (hi : i.mnemonic ∈ Forms.writesA ∨ i.format = .acc) (h : (s.setA t.a).SameRegisters t)
  | writesX (hi : i.mnemonic ∈ Forms.writesX) (h : (s.setX t.x).SameRegisters t)
  | writesY (hi : i.mnemonic ∈ Forms.writesY) (h : (s.setY t.y).SameRegisters t)
  | writesS (hi : i.mnemonic ∈ Forms.writesS) (h : (s.setSp t.sp).SameRegisters t)
  | pullsA (hi : i.mnemonic = .pla) (h : ((s.setSp t.sp).setA t.a).SameRegisters t)
  | requests (hi : i.mnemonic = .brk) (h : (s.setIrqReq t.irqReq).SameRegisters t)
  | accumulates (hi : i.mnemonic = .adc ∨ i.mnemonic = .sbc) (h : ((s.setA t.a).setDraws t.draws).SameRegisters t)

theorem exec_registerEffect {i : Instr} {s t : State} (h : exec i s = .next t) : RegisterEffect i s t := by
  cases i with
  | ldaImm | ldaZp | ldaZpx | ldaAbs | ldaAbx | ldaAby | ldaIzx | ldaIzy | txa | tya
  | andImm | andZp | andZpx | andAbs | andAbx | andAby | andIzx | andIzy
  | oraImm | oraZp | oraZpx | oraAbs | oraAbx | oraAby | oraIzx | oraIzy
  | eorImm | eorZp | eorZpx | eorAbs | eorAbx | eorAby | eorIzx | eorIzy =>
    cases h; exact .writesA (.inl (of_decide_eq_true rfl)) ⟨rfl, rfl, rfl, rfl, rfl, rfl, rfl, rfl, rfl⟩
  | aslAcc | lsrAcc | rolAcc | rorAcc => cases h; exact .writesA (.inr rfl) ⟨rfl, rfl, rfl, rfl, rfl, rfl, rfl, rfl, rfl⟩
  | ldxImm | ldxZp | ldxZpy | ldxAbs | ldxAby | tax | tsx | inx | dex =>
    cases h; exact .writesX (of_decide_eq_true rfl) ⟨rfl, rfl, rfl, rfl, rfl, rfl, rfl, rfl, rfl⟩
  | ldyImm | ldyZp | ldyZpx | ldyAbs | ldyAbx | tay | iny | dey =>
    cases h; exact .writesY (of_decide_eq_true rfl) ⟨rfl, rfl, rfl, rfl, rfl, rfl, rfl, rfl, rfl⟩
  | txs | plp | rts | rti => cases h; exact .writesS (of_decide_eq_true rfl) ⟨rfl, rfl, rfl, rfl, rfl, rfl, rfl, rfl, rfl⟩
  | pha | php => cases h; exact .writesS (of_decide_eq_true rfl) (sameRegisters_push8 s _)
  | jsr => cases h; exact .writesS (of_decide_eq_true rfl) (sameRegisters_push16 s _)
  | pla => cases h; exact .pullsA rfl ⟨rfl, rfl, rfl, rfl, rfl, rfl, rfl, rfl, rfl⟩
  | adcImm | adcZp | adcZpx | adcAbs | adcAbx | adcAby | adcIzx | adcIzy =>
    cases h; exact .accumulates (.inl rfl) (sameRegisters_writeAcc_drawDecimal _ s)
  | sbcImm | sbcZp | sbcZpx | sbcAbs | sbcAbx | sbcAby | sbcIzx | sbcIzy =>
    cases h; exact .accumulates (.inr rfl) (sameRegisters_writeAcc_drawDecimal _ s)
  | brk => cases h; exact .requests rfl (by simp [State.SameRegisters])
  | staZp | staZpx | staAbs | staAbx | staAby | staIzx | staIzy => cases h; exact .keeps (sameRegisters_sta _ s)
  | stxZp | stxZpy | stxAbs => cases h; exact .keeps (sameRegisters_stx _ s)
  | styZp | styZpx | styAbs => cases h; exact .keeps (sameRegisters_sty _ s)
  | aslZp | aslZpx | aslAbs | aslAbx | lsrZp | lsrZpx | lsrAbs | lsrAbx
  | rolZp | rolZpx | rolAbs | rolAbx | rorZp | rorZpx | rorAbs | rorAbx =>
    cases h; exact .keeps (sameRegisters_shiftMem _ _ s)
  | incZp | incZpx | incAbs | incAbx | decZp | decZpx | decAbs | decAbx =>
    cases h; exact .keeps (sameRegisters_modifyMem _ _ s)
  | _ => cases h; exact .keeps ⟨rfl, rfl, rfl, rfl, rfl, rfl, rfl, rfl, rfl⟩

/-- Settles O55: what each kind of effect writes is on the list of the register it writes. -/
theorem registerFrame : Obligations.RegisterFrame := by
  intro i s t h
  cases exec_registerEffect h with
  | keeps h => simp [h]
  | writesA hi h => simp [State.SameRegisters] at h; obtain hi | hi := hi <;> simp [h, hi]
  | writesX hi h => simp [State.SameRegisters] at h; simp [h, hi]
  | writesY hi h => simp [State.SameRegisters] at h; simp [h, hi]
  | writesS hi h => simp [State.SameRegisters] at h; simp [h, hi]
  | pullsA hi h => simp [State.SameRegisters] at h; simp [h, hi, Forms.writesA, Forms.writesS]
  | requests hi h => simp [State.SameRegisters] at h; simp [h, hi]
  | accumulates hi h => simp [State.SameRegisters] at h; obtain hi | hi := hi <;> simp [h, hi, Forms.writesA]

end Sys2Proof.Machine
end

section
/-! PROOFS. Which flags an instruction writes (R30 to R35). -/

namespace Sys2Proof.Machine

/-- How the flags `q` after instruction `i` come from the flags `p` before it: every constructor names the flags written and
says that the rules of those flags list `i` (R30 to R35). -/
inductive FlagEffect (i : Instr) (p q : Flags) : Prop where
  | keeps (h : q = p)
  | writesZN {z n : Bool} (hzn : i.mnemonic ∈ Forms.writesZN) (h : q = { p with z := z, n := n })
  | writesCZN {c z n : Bool} (hc : i.mnemonic ∈ Forms.writesC) (hzn : i.mnemonic ∈ Forms.writesZN)
      (h : q = { p with c := c, z := z, n := n })
  | writesVZN {v z n : Bool} (hv : i.mnemonic ∈ Forms.writesV) (hzn : i.mnemonic ∈ Forms.writesZN)
      (h : q = { p with v := v, z := z, n := n })
  | writesNVZC {n v z c : Bool} (hi : i.mnemonic = .adc ∨ i.mnemonic = .sbc)
      (h : q = { p with n := n, v := v, z := z, c := c })
  | writesAll (hi : i.mnemonic = .plp ∨ i.mnemonic = .rti)
  | writesC {c : Bool} (hc : i.mnemonic ∈ Forms.writesC) (h : q = { p with c := c })
  | writesI {b : Bool} (hi : i.mnemonic ∈ Forms.writesI) (h : q = { p with i := b })
  | writesD {d : Bool} (hd : i.mnemonic ∈ Forms.writesD) (h : q = { p with d := d })
  | writesV {v : Bool} (hv : i.mnemonic ∈ Forms.writesV) (h : q = { p with v := v })

/-! The flags after the shared operations that go through memory or count free values. -/

theorem sta_p (m : Mode) (s : State) : (sta m s).p = s.p := by simp [sta]
theorem stx_p (m : Mode) (s : State) : (stx m s).p = s.p := by simp [stx]
theorem sty_p (m : Mode) (s : State) : (sty m s).p = s.p := by simp [sty]

theorem modifyMem_p (f : Byte → Byte) (m : Mode) (s : State) :
    (modifyMem f m s).p = s.p.withZN (f (s.memRead (ea m s))) := by
  simp [modifyMem, State.withZN]

theorem writeAcc_drawDecimal_p (o : AccOut) (s : State) :
    (writeAcc o (drawDecimal s)).p = { s.p with n := o.n, v := o.v, z := o.z, c := o.c } := by
  obtain ⟨k, hk⟩ := drawDecimal_eq s
  simp [writeAcc, hk]

theorem exec_flagEffect {i : Instr} {s t : State} (h : exec i s = .next t) : FlagEffect i s.p t.p := by
  cases i with
  | ldaImm | ldaZp | ldaZpx | ldaAbs | ldaAbx | ldaAby | ldaIzx | ldaIzy
  | ldxImm | ldxZp | ldxZpy | ldxAbs | ldxAby | ldyImm | ldyZp | ldyZpx | ldyAbs | ldyAbx
  | andImm | andZp | andZpx | andAbs | andAbx | andAby | andIzx | andIzy
  | oraImm | oraZp | oraZpx | oraAbs | oraAbx | oraAby | oraIzx | oraIzy
  | eorImm | eorZp | eorZpx | eorAbs | eorAbx | eorAby | eorIzx | eorIzy
  | tax | tay | txa | tya | tsx | inx | iny | dex | dey | pla =>
    cases h; exact .writesZN (of_decide_eq_true rfl) rfl
  | incZp | incZpx | incAbs | incAbx | decZp | decZpx | decAbs | decAbx =>
    cases h; exact .writesZN (of_decide_eq_true rfl) (modifyMem_p _ _ s)
  | cmpImm | cmpZp | cmpZpx | cmpAbs | cmpAbx | cmpAby | cmpIzx | cmpIzy
  | cpxImm | cpxZp | cpxAbs | cpyImm | cpyZp | cpyAbs
  | aslAcc | aslZp | aslZpx | aslAbs | aslAbx | lsrAcc | lsrZp | lsrZpx | lsrAbs | lsrAbx
  | rolAcc | rolZp | rolZpx | rolAbs | rolAbx | rorAcc | rorZp | rorZpx | rorAbs | rorAbx =>
    cases h; exact .writesCZN (of_decide_eq_true rfl) (of_decide_eq_true rfl) rfl
  | bitZp | bitAbs => cases h; exact .writesVZN (of_decide_eq_true rfl) (of_decide_eq_true rfl) rfl
  | adcImm | adcZp | adcZpx | adcAbs | adcAbx | adcAby | adcIzx | adcIzy =>
    cases h; exact .writesNVZC (.inl rfl) (writeAcc_drawDecimal_p _ s)
  | sbcImm | sbcZp | sbcZpx | sbcAbs | sbcAbx | sbcAby | sbcIzx | sbcIzy =>
    cases h; exact .writesNVZC (.inr rfl) (writeAcc_drawDecimal_p _ s)
  | plp => exact .writesAll (.inl rfl)
  | rti => exact .writesAll (.inr rfl)
  | clc | sec => cases h; exact .writesC (of_decide_eq_true rfl) rfl
  | cli | sei => cases h; exact .writesI (of_decide_eq_true rfl) rfl
  | cld | sed => cases h; exact .writesD (of_decide_eq_true rfl) rfl
  | clv => cases h; exact .writesV (of_decide_eq_true rfl) rfl
  | staZp | staZpx | staAbs | staAbx | staAby | staIzx | staIzy => cases h; exact .keeps (sta_p _ s)
  | stxZp | stxZpy | stxAbs => cases h; exact .keeps (stx_p _ s)
  | styZp | styZpx | styAbs => cases h; exact .keeps (sty_p _ s)
  | pha | php => cases h; exact .keeps (by simp)
  | jsr => cases h; exact .keeps (by simp [jumpSub, State.push16])
  | brk => cases h; exact .keeps (by simp)
  | _ => cases h; exact .keeps rfl

/-- Settles O56: the flags each kind of effect writes are flags whose rule lists the instruction. -/
theorem flagFrame : Obligations.FlagFrame := by
  intro i s t h
  cases exec_flagEffect h with
  | keeps h => simp [h]
  | writesZN hzn h => simp [h, hzn]
  | writesCZN hc hzn h => simp [h, hc, hzn]
  | writesVZN hv hzn h => simp [h, hv, hzn]
  | writesNVZC hi h => obtain hi | hi := hi <;> simp [h, hi, Forms.writesC, Forms.writesZN, Forms.writesV]
  | writesAll hi =>
    obtain hi | hi := hi <;>
      simp [hi, Forms.writesC, Forms.writesZN, Forms.writesI, Forms.writesD, Forms.writesV]
  | writesC hc h => simp [h, hc]
  | writesI hi h => simp [h, hi]
  | writesD hd h => simp [h, hd]
  | writesV hv h => simp [h, hv]

end Sys2Proof.Machine
end

section
/-! PROOFS. Interrupt entry (R251 to R253). -/

namespace Sys2Proof.Machine

/-! Bytes, words and stack addresses as the numbers the spec writes (R55, R60). -/

theorem loByte_eq_ofNat (w : Word) : loByte w = BitVec.ofNat 8 w.toNat :=
  BitVec.eq_of_toNat_eq (by rw [loByte_toNat, BitVec.toNat_ofNat])

theorem hiByte_eq_ofNat (w : Word) : hiByte w = BitVec.ofNat 8 (w.toNat / 256) := by
  apply BitVec.eq_of_toNat_eq
  have := w.isLt
  rw [hiByte_toNat, BitVec.toNat_ofNat]
  omega

theorem leWord_eq_ofNat (lo hi : Byte) : leWord lo hi = BitVec.ofNat 16 (hi.toNat * 256 + lo.toNat) := by
  rw [← leWord_toNat, BitVec.ofNat_toNat, BitVec.setWidth_eq]

theorem stackAddr_eq_ofNat (page off : Byte) : stackAddr page off = BitVec.ofNat 16 (page.toNat * 256 + off.toNat) :=
  leWord_eq_ofNat off page

/-- S after `k` pushes, in the numbers of the spec: decremented modulo 256 (R61). -/
theorem sp_sub_toNat (sp k : Byte) : (sp - k).toNat = (sp.toNat + (256 - k.toNat)) % 256 := by
  rw [BitVec.toNat_sub, Nat.add_comm]

/-! The stack writes of the pushes, with the change of S moved outside (R61, R63). -/

theorem State.push8_setSp (s : State) (o v : Byte) :
    (s.setSp o).push8 v = (s.memWrite (stackAddr s.cfg.stackPage o) v).setSp (o - 1) := by
  simp only [State.push8, State.memWrite_setSp, State.setSp_cfg, State.setSp_sp]
  rfl

theorem State.push16_eq (s : State) (w : Word) :
    s.push16 w = ((s.memWrite (stackAddr s.cfg.stackPage s.sp) (hiByte w)).memWrite
      (stackAddr s.cfg.stackPage (s.sp - 1)) (loByte w)).setSp (s.sp - 2) := by
  have hsp : s.sp - 1 - 1 = s.sp - 2 := by bv_omega
  change ((s.memWrite _ (hiByte w)).setSp (s.sp - 1)).push8 (loByte w) = _
  rw [State.push8_setSp, State.memWrite_cfg, hsp]

/-- The three bytes an entry pushes: pc high, pc low, the flag byte (R251, R252). -/
theorem State.push16_push8_eq (s : State) (w : Word) (v : Byte) :
    (s.push16 w).push8 v = (((s.memWrite (stackAddr s.cfg.stackPage s.sp) (hiByte w)).memWrite
      (stackAddr s.cfg.stackPage (s.sp - 1)) (loByte w)).memWrite (stackAddr s.cfg.stackPage (s.sp - 2)) v).setSp
      (s.sp - 3) := by
  have hsp : s.sp - 2 - 1 = s.sp - 3 := by bv_omega
  rw [State.push16_eq, State.push8_setSp, State.memWrite_cfg, State.memWrite_cfg, hsp]

theorem State.memRead16_eq_ofNat (s : State) (w : Word) :
    s.memRead16 w = BitVec.ofNat 16 ((s.memRead (w + 1)).toNat * 256 + (s.memRead w).toNat) :=
  leWord_eq_ofNat _ _

/-- Entry through the state `u` that its pushes leave in memory (R251). -/
theorem service_of_pushes {r : Request} {s u : State} {o : Byte}
    (h : (s.push16 s.pc).push8 (s.p.toByte (decide (r.kind = .brk))) = u.setSp o) :
    service r s = { u with
      sp := o, p := { u.p with i := true }, pc := u.memRead16 r.vector, irqReq := none, cyc := s.cyc + 7 } := by
  rw [service, h]
  rfl

/-- Settles O46: the pushes are three writes below S, and the vector is read from the memory they leave. -/
theorem servicePushesAndVectors : Obligations.ServicePushesAndVectors := by
  intro r s page flags u
  have hflags : s.p.toByte (decide (r.kind = .brk)) = flags := by
    by_cases hk : r.kind = .brk
    · simp [flags, Flags.toByte, hk]
    · simp [flags, Flags.toByte, hk]
  have hu : (s.push16 s.pc).push8 (s.p.toByte (decide (r.kind = .brk))) = u.setSp (s.sp - 3) := by
    rw [State.push16_push8_eq, hflags]
    simp only [stackAddr_eq_ofNat, sp_sub_toNat, hiByte_eq_ofNat, loByte_eq_ofNat]
    rfl
  have hp : u.p = s.p := by simp [u]
  rw [service_of_pushes hu, hp, State.memRead16_eq_ofNat]

end Sys2Proof.Machine
end

section
/-! PROOFS. The configuration along every event, and what each direct operation of the host writes (R36, R290, R291). -/

namespace Sys2Proof.Machine

theorem exec_cfg {i : Instr} {s t : State} (h : exec i s = .next t) : t.cfg = s.cfg := by
  obtain ⟨hcfg, -, -⟩ | ⟨a, v, hcfg, -, -⟩ | ⟨w, hcfg, -, -⟩ := exec_storage_cases h
  · exact hcfg
  · rw [hcfg, State.memWrite_cfg]
  · rw [hcfg, State.push16, State.push8_cfg, State.push8_cfg]

theorem service_cfg (r : Request) (s : State) : (service r s).cfg = s.cfg := by
  obtain ⟨-, -, -, hcfg, -, -⟩ := service_keeps r s
  exact hcfg

theorem step_cfg {s t : State} (h : step s = .next t) : t.cfg = s.cfg := by
  obtain ⟨-, ⟨r, -, rfl⟩ | ⟨i, rest, u, -, -, hu, rfl⟩⟩ := step_cases h
  · exact service_cfg r s
  · rw [State.setCyc_cfg, exec_cfg hu]

@[simp] theorem State.afterDecodeError_cfg (s : State) : s.afterDecodeError.cfg = s.cfg := by
  unfold State.afterDecodeError
  split <;> rfl

theorem dispatch_cfg (s : State) : (dispatch s).1.cfg = s.cfg := by
  obtain h | h | h := dispatch_state_cases s
  · exact step_cfg h
  · rw [h]
  · rw [h, State.afterDecodeError_cfg]

@[simp] theorem State.loadBytes_cfg (s : State) (w : Word) (bs : List Byte) : (s.loadBytes w bs).cfg = s.cfg := by
  induction bs generalizing s w with
  | nil => rfl
  | cons b rest ih => rw [State.loadBytes, ih, State.memWrite_cfg]

/-- The configuration registers a host operation writes: the stack page and the vectors, each by its own setter (R290). -/
theorem hostOp_cfg (s : State) (op : HostOp) : (op.apply s).cfg = match op with
    | .setStackPage v => { s.cfg with stackPage := v }
    | .setVecNmi v => { s.cfg with vecNmi := v }
    | .setVecReset v => { s.cfg with vecReset := v }
    | .setVecIrq v => { s.cfg with vecIrq := v }
    | _ => s.cfg := by
  cases op with
  | load image offset => exact s.loadBytes_cfg _ _
  | raise nmi => exact s.request_cfg _
  | poke a v => exact s.memWrite_cfg a v
  | pokeWord a w => exact (State.memWrite_cfg _ _ _).trans (s.memWrite_cfg a _)
  | push8 v => exact s.push8_cfg v
  | push16 w => exact (State.push8_cfg _ _).trans (s.push8_cfg _)
  | _ => rfl

theorem State.memWrite16_eq (s : State) (a w : Word) : s.memWrite16 a w =
    (s.memWrite a (BitVec.ofNat 8 w.toNat)).memWrite (BitVec.ofNat 16 (a.toNat + 1)) (BitVec.ofNat 8 (w.toNat / 256)) := by
  have hnext : a + 1 = BitVec.ofNat 16 (a.toNat + 1) := by bv_omega
  rw [State.memWrite16, loByte_eq_ofNat, hiByte_eq_ofNat, hnext]

theorem State.popped16_eq (s : State) : s.popped16 = s.setSp (s.sp + 2) := by
  have hsp : s.sp + 1 + 1 = s.sp + 2 := by bv_omega
  exact congrArg s.setSp hsp

/-- Settles O54: no step reaches a configuration register, and each operation of the host writes what it names. -/
theorem noStepChangesTheConfiguration : Obligations.NoStepChangesTheConfiguration := by
  refine ⟨fun s t h => step_cfg h, dispatch_cfg, hostOp_cfg, ?_⟩
  intro s a w v b page hi lo
  have hpush8 : HostOp.apply (.push8 v) s =
      { s.memWrite (BitVec.ofNat 16 (page + s.sp.toNat)) v with sp := s.sp - 1 } := by
    rw [← stackAddr_eq_ofNat]
    rfl
  have hpush16 : HostOp.apply (.push16 w) s =
      { (s.memWrite (BitVec.ofNat 16 (page + s.sp.toNat)) hi).memWrite
          (BitVec.ofNat 16 (page + (s.sp.toNat + 255) % 256)) lo with sp := s.sp - 2 } := by
    refine (s.push16_eq w).trans ?_
    simp only [stackAddr_eq_ofNat, sp_sub_toNat, hiByte_eq_ofNat, loByte_eq_ofNat]
    rfl
  exact ⟨rfl, s.memWrite16_eq a w, hpush8, hpush16, rfl, s.popped16_eq,
    rfl, rfl, rfl, rfl, rfl, rfl, rfl, rfl, rfl, rfl, rfl, rfl, rfl, rfl, rfl, rfl⟩

end Sys2Proof.Machine
end

section
/-! PROOFS. The masked IRQ that waits in the slot (R222, R248, R249, R258). -/

namespace Sys2Proof.Machine

theorem mnemonic_eq_brk {i : Instr} (h : i.mnemonic = .brk) : ∃ pad, i = .brk pad := by
  cases i with
  | brk pad => exact ⟨pad, rfl⟩
  | _ => cases h

/-- BRK's request has the highest rank, so it takes the place of a pending IRQ (R248, D14). -/
theorem State.request_brk_over_irq {s : State} {v : Word} (h : s.irqReq = some ⟨.irq, v⟩) :
    (s.request .brk).irqReq = some ⟨.brk, s.cfg.vecIrq⟩ := by
  simp [State.request, h, IrqKind.rank, HwConfig.vector]

/-- The slot after an instruction that ran with an IRQ pending: BRK puts its own request there, no other touches it (R222). -/
theorem exec_irqReq_of_irq {i : Instr} {s t : State} {v : Word} (hs : s.irqReq = some ⟨.irq, v⟩)
    (h : exec i s = .next t) :
    t.irqReq = if i.mnemonic = .brk then some ⟨.brk, s.cfg.vecIrq⟩ else some ⟨.irq, v⟩ := by
  by_cases hi : i.mnemonic = .brk
  · obtain ⟨pad, rfl⟩ := mnemonic_eq_brk hi
    cases h
    rw [if_pos hi]
    exact State.request_brk_over_irq (s := s.advance 2) hs
  · obtain ⟨-, -, -, -, hslot, -⟩ := registerFrame i s t h
    rw [if_neg hi, hslot hi, hs]

/-- Settles O58: a masked IRQ is not due, so the step runs the instruction at pc, and only BRK writes the slot. -/
theorem maskedIrqWaits : Obligations.MaskedIrqWaits := by
  intro s t v hslot hmask h
  have hdue : s.due = none := State.due_eq_none (.inr ⟨_, hslot, rfl, hmask⟩)
  obtain ⟨-, ⟨r, hr, -⟩ | ⟨i, rest, u, -, hdec, hu, rfl⟩⟩ := step_cases h
  · cases hdue.symm.trans hr
  · refine ⟨i, rest, u, hdec, hu, rfl, ?_⟩
    rw [State.setCyc_irqReq, exec_irqReq_of_irq hslot hu]

end Sys2Proof.Machine
end

section
/-! PROOFS. Memory access, the stack, and the addresses an instruction stores to (R51 to R54, R60 to R65). -/

namespace Sys2Proof.Machine

/-! One byte (R51, R52). -/

theorem State.backed_eq_true_iff {s : State} {a : Word} : s.backed a = true ↔ a.toNat < s.cfg.memSize :=
  decide_eq_true_iff

theorem State.backed_eq_false_iff {s : State} {a : Word} : s.backed a = false ↔ s.cfg.memSize ≤ a.toNat :=
  decide_eq_false_iff_not.trans Nat.not_lt

theorem State.memRead_memWrite_of_backed {s : State} {a : Word} (v : Byte) (h : s.backed a = true) :
    (s.memWrite a v).memRead a = v := by
  rw [State.memRead_memWrite_same, if_pos h]

theorem State.memRead_of_unbacked {s : State} {a : Word} (h : s.backed a = false) : s.memRead a = 0 := by
  simp [State.memRead, h]

theorem State.memWrite_of_unbacked {s : State} {a : Word} (v : Byte) (h : s.backed a = false) :
    s.memWrite a v = s := by
  simp [State.memWrite, h]

/-- Settles O13: the array gives back what was set and keeps its other cells, and out of its bounds nothing is stored. -/
theorem readAfterWrite : Obligations.ReadAfterWrite := by
  intro s a b v
  refine ⟨fun ha => ?_, fun hb => s.memRead_memWrite_other v hb, fun ha => ?_⟩
  · exact State.memRead_memWrite_of_backed v (State.backed_eq_true_iff.mpr ha)
  · have hunbacked : s.backed a = false := State.backed_eq_false_iff.mpr ha
    exact ⟨State.memRead_of_unbacked hunbacked, State.memWrite_of_unbacked v hunbacked⟩

/-! One word (R53, R54). -/

/-- The second address of a word, in the numbers of the spec: it wraps at 65536 (D6). -/
theorem succ_eq_ofNat_mod (a : Word) : a + 1 = BitVec.ofNat 16 ((a.toNat + 1) % 65536) := by bv_omega

theorem loByte_eq_ofNat_mod (w : Word) : loByte w = BitVec.ofNat 8 (w.toNat % 256) := by
  rw [← loByte_toNat, BitVec.ofNat_toNat, BitVec.setWidth_eq]

/-- The two bytes of a word lie at different addresses, so neither write covers the other. -/
theorem State.memRead16_memWrite16 {s : State} {a : Word} (w : Word) (hlo : s.backed a = true)
    (hhi : s.backed (a + 1) = true) : (s.memWrite16 a w).memRead16 a = w := by
  have hne : a ≠ a + 1 := by bv_omega
  have hlow : (s.memWrite16 a w).memRead a = loByte w := by
    rw [State.memWrite16, State.memRead_memWrite_other _ _ hne, State.memRead_memWrite_of_backed _ hlo]
  have hhigh : (s.memWrite16 a w).memRead (a + 1) = hiByte w :=
    State.memRead_memWrite_of_backed _ (by rwa [State.backed_memWrite])
  rw [State.memRead16, hlow, hhigh, leWord_loByte_hiByte]

/-- Settles O14: a word is read and written byte by byte at `a` and at `a + 1`, which is the spec's wrapped address. -/
theorem wordAccessIsTwoBytes : Obligations.WordAccessIsTwoBytes := by
  intro s a w a'
  have hnext : a + 1 = a' := succ_eq_ofNat_mod a
  rw [← hnext]
  refine ⟨leWord_toNat _ _, ?_, fun hlo hhi => ?_⟩
  · rw [State.memWrite16, loByte_eq_ofNat_mod, hiByte_eq_ofNat]
  · exact State.memRead16_memWrite16 w (State.backed_eq_true_iff.mpr hlo) (State.backed_eq_true_iff.mpr hhi)

/-! The stack (R60 to R64). -/

theorem stackAddr_toNat (page off : Byte) : (stackAddr page off).toNat = page.toNat * 256 + off.toNat :=
  leWord_toNat off page

/-- The stack page lies in memory whole. -/
theorem State.backed_stackAddr {s : State} {page : Byte} (h : page.toNat * 256 + 255 < s.cfg.memSize) (off : Byte) :
    s.backed (stackAddr page off) = true := by
  have := off.isLt
  rw [State.backed_eq_true_iff, stackAddr_toNat]
  omega

/-- A pop reads where the push before it wrote (R61, R62). -/
theorem State.popByte_push8 {s : State} (v : Byte) (h : s.backed (stackAddr s.cfg.stackPage s.sp) = true) :
    (s.push8 v).popByte = v := by
  rw [State.popByte, State.push8_cfg, State.push8_sp, BitVec.sub_add_cancel, State.memRead_push8,
    State.memRead_memWrite_of_backed v h]

/-- A push leaves the byte above it for the second pop. -/
theorem State.popByte_popped8_push8 (s : State) (v : Byte) : (s.push8 v).popped8.popByte = s.popByte := by
  have hne : stackAddr s.cfg.stackPage (s.sp + 1) ≠ stackAddr s.cfg.stackPage s.sp := by
    intro h
    have := stackAddr_inj h
    bv_omega
  simp only [State.popByte, State.popped8_cfg, State.popped8_sp, State.push8_cfg, State.push8_sp,
    BitVec.sub_add_cancel, State.memRead_popped8, State.memRead_push8]
  exact s.memRead_memWrite_other v hne

/-- Last in, first out: the high byte is pushed first and popped last (R63, R64). -/
theorem State.popWord_push16 {s : State} (w : Word) (h : s.cfg.stackPage.toNat * 256 + 255 < s.cfg.memSize) :
    (s.push16 w).popWord = w := by
  have hlo : (s.push16 w).popByte = loByte w :=
    State.popByte_push8 _ (State.backed_stackAddr (by simpa using h) _)
  have hhi : (s.push16 w).popped8.popByte = hiByte w := by
    rw [State.push16, State.popByte_popped8_push8, State.popByte_push8 _ (State.backed_stackAddr h _)]
  rw [State.popWord, hlo, hhi, leWord_loByte_hiByte]

theorem State.sp_popped8_push8 (s : State) (v : Byte) : (s.push8 v).popped8.sp = s.sp := by simp

theorem State.sp_popped16_push16 (s : State) (w : Word) : (s.push16 w).popped16.sp = s.sp := by simp [State.push16]

/-- Settles O15: where the bytes go and how S moves, and that pops undo pushes in a backed stack page. -/
theorem stackPushAndPop : Obligations.StackPushAndPop := by
  intro s v w
  have hpush16 : s.push16 w =
      (s.push8 (BitVec.ofNat 8 (w.toNat / 256))).push8 (BitVec.ofNat 8 (w.toNat % 256)) := by
    rw [State.push16, hiByte_eq_ofNat, loByte_eq_ofNat_mod]
  refine ⟨stackAddr_toNat _ _, rfl, rfl, rfl, hpush16, rfl, leWord_toNat _ _, fun hpage => ?_⟩
  exact ⟨State.popByte_push8 v (State.backed_stackAddr hpage _), s.sp_popped8_push8 v,
    State.popWord_push16 w hpage, s.sp_popped16_push16 w⟩

/-! What an instruction stores, and where (R65, R123, R170, R190, R220). -/

/-- Storage after an instruction: as before, or one byte is written at the address of `storedTo`, or a word is pushed at the
two stack addresses of `storedTo`. -/
inductive StoreEffect (i : Instr) (s t : State) : Prop where
  | keeps (h : s.SameStorage t)
  | stores {a : Word} {v : Byte} (ha : Forms.storedTo i s = [a]) (h : (s.memWrite a v).SameStorage t)
  | pushesWord {w : Word}
      (ha : Forms.storedTo i s = [stackAddr s.cfg.stackPage s.sp, stackAddr s.cfg.stackPage (s.sp - 1)])
      (h : (s.push16 w).SameStorage t)

theorem exec_storeEffect {i : Instr} {s t : State} (h : exec i s = .next t) : StoreEffect i s t := by
  cases i with
  | staZp | staZpx | staAbs | staAbx | staAby | staIzx | staIzy | stxZp | stxZpy | stxAbs | styZp | styZpx | styAbs
  | aslZp | aslZpx | aslAbs | aslAbx | lsrZp | lsrZpx | lsrAbs | lsrAbx
  | rolZp | rolZpx | rolAbs | rolAbx | rorZp | rorZpx | rorAbs | rorAbx
  | incZp | incZpx | incAbs | incAbx | decZp | decZpx | decAbs | decAbx | pha | php =>
    cases h; exact .stores rfl ⟨rfl, rfl, rfl⟩
  | jsr => cases h; exact .pushesWord rfl ⟨rfl, rfl, rfl⟩
  | adcImm | adcZp | adcZpx | adcAbs | adcAbx | adcAby | adcIzx | adcIzy => cases h; exact .keeps (sameStorage_adc _ s)
  | sbcImm | sbcZp | sbcZpx | sbcAbs | sbcAbx | sbcAby | sbcIzx | sbcIzy => cases h; exact .keeps (sameStorage_sbc _ s)
  | brk => cases h; exact .keeps (sameStorage_request (s.advance 2) .brk)
  | _ => cases h; exact .keeps ⟨rfl, rfl, rfl⟩

theorem State.SameStorage.memRead_eq {s t : State} (h : s.SameStorage t) (a : Word) : t.memRead a = s.memRead a := by
  obtain ⟨hcfg, hmem, -⟩ := h
  exact State.memRead_congr hmem hcfg a

theorem State.memRead_push16_other {s : State} {a : Word} (w : Word) (hhi : a ≠ stackAddr s.cfg.stackPage s.sp)
    (hlo : a ≠ stackAddr s.cfg.stackPage (s.sp - 1)) : (s.push16 w).memRead a = s.memRead a := by
  rw [State.push16_eq, State.memRead_setSp, State.memRead_memWrite_other _ _ hlo, State.memRead_memWrite_other _ _ hhi]

/-- Settles O57: a byte outside `storedTo` is none of those written, so it reads as before. -/
theorem memoryFrame : Obligations.MemoryFrame := by
  intro i s t h b hb
  cases exec_storeEffect h with
  | keeps h => exact h.memRead_eq b
  | stores ha h =>
    rw [ha, List.mem_singleton] at hb
    rw [h.memRead_eq, State.memRead_memWrite_other _ _ hb]
  | pushesWord ha h =>
    rw [ha, List.mem_pair, not_or] at hb
    obtain ⟨hhi, hlo⟩ := hb
    rw [h.memRead_eq, State.memRead_push16_other _ hhi hlo]

end Sys2Proof.Machine
end

section
/-! PROOFS. The encoding (30_encoding.md): the opcode matrix of R84, the encodings of R90 and the list of R85 agree, so the
decoder and the encoder are inverse and an opcode byte fixes the form of its instruction (R83). -/

namespace Sys2Proof

/-! What the decoder does with an opcode byte, by the cell of the matrix. -/

/-- The cell stands for the instruction, with these operand bytes after the opcode (R81, R82). -/
def Cell.Spells : Cell → Instr → List Byte → Prop
  | .bad, _, _ => False
  | .one j, i, args => i = j ∧ args = []
  | .two f, i, args => ∃ b, i = f b ∧ args = [b]
  | .three f, i, args => ∃ w, i = f w ∧ args = [loByte w, hiByte w]

theorem decode_append_of_spells {op : Byte} {i : Instr} {args : List Byte} (h : (opcodeCell op).Spells i args)
    (rest : List Byte) : decode (op :: (args ++ rest)) = .instr i rest := by
  cases hc : opcodeCell op with
  | bad => simp [hc, Cell.Spells] at h
  | one j =>
    obtain ⟨rfl, rfl⟩ : i = j ∧ args = [] := by rwa [hc] at h
    simp [decode, hc]
  | two f =>
    obtain ⟨b, rfl, rfl⟩ : ∃ b, i = f b ∧ args = [b] := by rwa [hc] at h
    simp [decode, hc]
  | three f =>
    obtain ⟨w, rfl, rfl⟩ : ∃ w, i = f w ∧ args = [loByte w, hiByte w] := by rwa [hc] at h
    simp [decode, hc, Machine.leWord_loByte_hiByte]

theorem spells_of_decode {op : Byte} {tail rest : List Byte} {i : Instr} (h : decode (op :: tail) = .instr i rest) :
    ∃ args, (opcodeCell op).Spells i args ∧ tail = args ++ rest := by
  cases hc : opcodeCell op with
  | bad => simp [decode, hc] at h
  | one j =>
    obtain ⟨rfl, rfl⟩ : j = i ∧ tail = rest := by simpa [decode, hc] using h
    exact ⟨[], ⟨rfl, rfl⟩, rfl⟩
  | two f =>
    match tail with
    | [] => simp [decode, hc] at h
    | b :: tail =>
      obtain ⟨rfl, rfl⟩ : f b = i ∧ tail = rest := by simpa [decode, hc] using h
      exact ⟨[b], ⟨b, rfl, rfl⟩, rfl⟩
  | three f =>
    match tail with
    | [] | [_] => simp [decode, hc] at h
    | lo :: hi :: tail =>
      obtain ⟨rfl, rfl⟩ : f (leWord lo hi) = i ∧ tail = rest := by simpa [decode, hc] using h
      exact ⟨[lo, hi], ⟨leWord lo hi, rfl, by simp⟩, rfl⟩

theorem decode_of_bad {op : Byte} (h : opcodeCell op = .bad) (tail : List Byte) :
    decode (op :: tail) = .reject (.illegalOpcode op) := by
  simp [decode, h]

/-- No instruction is longer than three bytes (R80), so a legal opcode byte and two more bytes start one. -/
theorem exists_decode_of_ne_bad {op : Byte} (h : opcodeCell op ≠ .bad) (b1 b2 : Byte) (rest : List Byte) :
    ∃ i rest', decode (op :: b1 :: b2 :: rest) = .instr i rest' := by
  cases hc : opcodeCell op with
  | bad => exact absurd hc h
  | one j => exact ⟨j, b1 :: b2 :: rest, by simp [decode, hc]⟩
  | two f => exact ⟨f b1, b2 :: rest, by simp [decode, hc]⟩
  | three f => exact ⟨f (leWord b1 b2), rest, by simp [decode, hc]⟩

/-! Each row of R90 against the matrix. -/

/-- Whatever the cell of the opcode byte stands for is encoded with that byte first, and has this mnemonic and format (R83). -/
def FixesForm (op : Byte) (m : Mnemonic) (fmt : Format) : Prop :=
  ∀ i args, (opcodeCell op).Spells i args → encode i = op :: args ∧ i.mnemonic = m ∧ i.format = fmt

/-- The encoding of the instruction is the one its cell in the matrix stands for, and its opcode byte fixes its form. -/
def Instr.InMatrix (i : Instr) : Prop :=
  ∃ op args, encode i = op :: args ∧ (opcodeCell op).Spells i args ∧ FixesForm op i.mnemonic i.format

theorem Instr.InMatrix.of_one {op : Byte} {i : Instr} (henc : encode i = [op]) (hcell : opcodeCell op = .one i) :
    i.InMatrix := by
  refine ⟨op, [], henc, ?_, ?_⟩
  · rw [hcell]; exact ⟨rfl, rfl⟩
  · intro j args h
    obtain ⟨rfl, rfl⟩ : j = i ∧ args = [] := by rwa [hcell] at h
    exact ⟨henc, rfl, rfl⟩

theorem Instr.InMatrix.of_two {op : Byte} {f : Byte → Instr} {m : Mnemonic} {fmt : Format}
    (henc : ∀ b, encode (f b) = [op, b]) (hline : ∀ b, (f b).toLine = ⟨m, fmt, b.toNat⟩)
    (hcell : opcodeCell op = .two f) (b : Byte) : (f b).InMatrix := by
  refine ⟨op, [b], henc b, ?_, ?_⟩
  · rw [hcell]; exact ⟨b, rfl, rfl⟩
  · intro j args h
    obtain ⟨c, rfl, rfl⟩ : ∃ c, j = f c ∧ args = [c] := by rwa [hcell] at h
    simp [henc, Instr.mnemonic, Instr.format, hline]

theorem Instr.InMatrix.of_three {op : Byte} {f : Word → Instr} {m : Mnemonic} {fmt : Format}
    (henc : ∀ w, encode (f w) = [op, loByte w, hiByte w]) (hline : ∀ w, (f w).toLine = ⟨m, fmt, w.toNat⟩)
    (hcell : opcodeCell op = .three f) (w : Word) : (f w).InMatrix := by
  refine ⟨op, [loByte w, hiByte w], henc w, ?_, ?_⟩
  · rw [hcell]; exact ⟨w, rfl, rfl⟩
  · intro j args h
    obtain ⟨u, rfl, rfl⟩ : ∃ u, j = f u ∧ args = [loByte u, hiByte u] := by rwa [hcell] at h
    simp [henc, Instr.mnemonic, Instr.format, hline]

theorem Instr.inMatrix (i : Instr) : i.InMatrix := by
  cases i with
  | tax | tay | txa | tya | tsx | txs | aslAcc | lsrAcc | rolAcc | rorAcc | inx | iny | dex | dey | pha | php | pla | plp
  | clc | sec | cli | sei | cld | sed | clv | nop | rts | rti => exact .of_one rfl rfl
  | ldaAbs w | ldaAbx w | ldaAby w | ldxAbs w | ldxAby w | ldyAbs w | ldyAbx w | staAbs w | staAbx w | staAby w | stxAbs w
  | styAbs w | andAbs w | andAbx w | andAby w | oraAbs w | oraAbx w | oraAby w | eorAbs w | eorAbx w | eorAby w | bitAbs w
  | adcAbs w | adcAbx w | adcAby w | sbcAbs w | sbcAbx w | sbcAby w | cmpAbs w | cmpAbx w | cmpAby w | cpxAbs w | cpyAbs w
  | aslAbs w | aslAbx w | lsrAbs w | lsrAbx w | rolAbs w | rolAbx w | rorAbs w | rorAbx w | incAbs w | incAbx w | decAbs w
  | decAbx w | jmpAbs w | jmpInd w | jsr w => exact .of_three (fun _ => rfl) (fun _ => rfl) rfl w
  | _ b => exact .of_two (fun _ => rfl) (fun _ => rfl) rfl b

/-- Settles O2: the cell of the opcode byte stands for the instruction with the operand bytes the encoder wrote. -/
theorem decodeOfEncodeIsTheInstruction : Obligations.DecodeOfEncodeIsTheInstruction := by
  intro i rest
  obtain ⟨op, args, henc, hspells, -⟩ := i.inMatrix
  rw [henc, List.cons_append]
  exact decode_append_of_spells hspells rest

/-! What the first byte of an encoding says of the instruction (R83). -/

theorem fixesForm_of_encode {i : Instr} {op : Byte} {args : List Byte} (h : encode i = op :: args) :
    FixesForm op i.mnemonic i.format := by
  obtain ⟨op', args', henc, -, hform⟩ := i.inMatrix
  obtain ⟨rfl, -⟩ := List.cons.inj (h.symm.trans henc)
  exact hform

theorem spells_of_encode {i : Instr} {op : Byte} {args : List Byte} (h : encode i = op :: args) :
    (opcodeCell op).Spells i args := by
  obtain ⟨op', args', henc, hspells, -⟩ := i.inMatrix
  obtain ⟨rfl, rfl⟩ := List.cons.inj (h.symm.trans henc)
  exact hspells

/-- The operand field of an encoding is as long as the format says (R81). -/
theorem length_args_of_encode {i : Instr} {op : Byte} {args : List Byte} (h : encode i = op :: args) :
    args.length = i.format.operandBytes := by
  obtain ⟨hlen, -⟩ := Laws.EncodedLength.all i
  rw [h, List.length_cons, Instr.length, Format.length] at hlen
  omega

/-- Settles O5: both instructions stand at one cell of the matrix, and the form the first gives it is the form of the second. -/
theorem opcodeAloneFixesFormatAndLength : Obligations.OpcodeAloneFixesFormatAndLength := by
  intro i j op xs ys hi hj
  obtain ⟨-, hmnemonic, hformat⟩ := fixesForm_of_encode hi j ys (spells_of_encode hj)
  refine ⟨hmnemonic.symm, hformat.symm, length_args_of_encode hi, ?_⟩
  rw [length_args_of_encode hi, length_args_of_encode hj, hformat]

/-! The legal opcode bytes (R85). -/

/-- The first byte of the encoding of what was decoded. -/
def Decoded.opcode? : Decoded → Option Byte
  | .instr i _ => (encode i).head?
  | .reject _ => none

/-- R84 and R85 side by side, for the 256 opcode bytes: a listed byte decodes to nothing, any other byte to an instruction
whose encoding begins with that byte. -/
theorem opcode?_decode_eq_ite : ∀ op : Byte,
    (decode [op, 0, 0]).opcode? = if op ∈ illegalOpcodes then none else some op := by
  decide

theorem encode_ne_nil (i : Instr) : encode i ≠ [] := by
  obtain ⟨op, args, henc, -, -⟩ := i.inMatrix
  simp [henc]

theorem opcodeCell_eq_bad_of_illegal {op : Byte} (h : op ∈ illegalOpcodes) : opcodeCell op = .bad := by
  by_contra hne
  obtain ⟨i, rest, hdec⟩ := exists_decode_of_ne_bad hne 0 0 []
  have hop := opcode?_decode_eq_ite op
  rw [if_pos h, hdec] at hop
  exact encode_ne_nil i (List.head?_eq_none_iff.mp hop)

theorem exists_encode_of_legal {op : Byte} (h : op ∉ illegalOpcodes) : ∃ i args, encode i = op :: args := by
  have hop := opcode?_decode_eq_ite op
  rw [if_neg h] at hop
  cases hdec : decode [op, 0, 0] with
  | reject r =>
    rw [hdec] at hop
    cases hop
  | instr i rest =>
    rw [hdec] at hop
    exact ⟨i, List.head?_eq_some_iff.mp hop⟩

theorem opcodeCell_eq_bad_iff {op : Byte} : opcodeCell op = .bad ↔ op ∈ illegalOpcodes := by
  refine ⟨fun hbad => ?_, opcodeCell_eq_bad_of_illegal⟩
  by_contra hlegal
  obtain ⟨i, args, henc⟩ := exists_encode_of_legal hlegal
  have hspells := spells_of_encode henc
  rwa [hbad] at hspells

/-- Settles O4: the cells marked illegal are those of the listed bytes. -/
theorem illegalBytesAreExactlyTheListed : Obligations.IllegalBytesAreExactlyTheListed := by
  refine ⟨by decide, by decide, fun op b1 b2 rest => ⟨fun h => ?_, fun h => ?_⟩⟩
  · exact decode_of_bad (opcodeCell_eq_bad_iff.mpr h) _
  · exact exists_decode_of_ne_bad (mt opcodeCell_eq_bad_iff.mp h) b1 b2 rest

theorem encode_of_spells {op : Byte} {i : Instr} {args : List Byte} (h : (opcodeCell op).Spells i args) :
    encode i = op :: args := by
  have hlegal : op ∉ illegalOpcodes := fun hbad => by
    rwa [opcodeCell_eq_bad_of_illegal hbad] at h
  obtain ⟨j, _, hj⟩ := exists_encode_of_legal hlegal
  obtain ⟨henc, -, -⟩ := fixesForm_of_encode hj i args h
  exact henc

/-- Settles O3: the opcode byte is legal, so some encoding begins with it, and that fixes all its cell stands for. -/
theorem decodedBytesAreTheEncoding : Obligations.DecodedBytesAreTheEncoding := by
  intro bs i rest h
  cases bs with
  | nil => cases h
  | cons op tail =>
    obtain ⟨args, hspells, rfl⟩ := spells_of_decode h
    rw [encode_of_spells hspells, List.cons_append]

/-- Settles O10: the fetched bytes are the encoding and a rest, so its operand bytes lie at pc + 1 and pc + 2. -/
theorem fetchedOperandIsTheByteAtItsAddress : Obligations.FetchedOperandIsTheByteAtItsAddress := by
  intro s i rest h
  have hbytes : Forms.fetched s = encode i ++ rest := decodedBytesAreTheEncoding _ i rest h
  refine ⟨⟨rest, hbytes⟩, fun op v henc => ?_, fun op lo hi henc => ?_⟩
  · simp only [Forms.fetched, henc, List.cons_append, List.cons.injEq] at hbytes
    obtain ⟨-, hv, -⟩ := hbytes
    exact hv
  · simp only [Forms.fetched, henc, List.cons_append, List.cons.injEq] at hbytes
    obtain ⟨-, hlo, hhi, -⟩ := hbytes
    have hpc : s.pc + 1 + 1 = s.pc + 2 := by bv_omega
    rw [Machine.State.memRead16, hpc, hlo, hhi]

/-- Settles O1: the decoder run on the twelve words. -/
theorem sampleWordsDecode : Obligations.SampleWordsDecode := by
  unfold Obligations.SampleWordsDecode
  decide

end Sys2Proof
end

section
/-! PROOFS. The addressing modes (40_addressing_modes.md): effective addresses as numbers, and the operand there (R101 to R110,
R114). -/

namespace Sys2Proof.Machine

/-- Widening keeps the number: a sum taken in a byte stays in page 0 (R102 to R104). -/
@[simp] theorem zext16_toNat (b : Byte) : (zext16 b).toNat = b.toNat :=
  BitVec.toNat_setWidth_of_le (by decide)

/-- A byte offset added to a word wraps at 65536, not within a page (R106, R107, R110, D6). -/
theorem add_zext16_toNat (w : Word) (b : Byte) : (w + zext16 b).toNat = (w.toNat + b.toNat) % 65536 := by
  rw [BitVec.toNat_add, zext16_toNat]

/-- A pointer in page 0 is read flat: the high byte of the pointer at 0x00FF comes from 0x0100 (R109, R110, C1). -/
theorem State.memRead16_zext16_toNat (s : State) (b : Byte) :
    (s.memRead16 (zext16 b)).toNat =
      (s.memRead (BitVec.ofNat 16 (b.toNat + 1))).toNat * 256 + (s.memRead (BitVec.ofNat 16 b.toNat)).toNat := by
  have hlo : zext16 b = BitVec.ofNat 16 b.toNat := (BitVec.ofNat_toNat 16 b).symm
  have hhi : zext16 b + 1 = BitVec.ofNat 16 (b.toNat + 1) := by rw [hlo, BitVec.ofNat_add]; rfl
  rw [State.memRead16, hhi, hlo, leWord_toNat]

theorem ea_izx_toNat (b : Byte) (s : State) :
    let ptr := (b.toNat + s.x.toNat) % 256
    (ea (.izx b) s).toNat =
      (s.memRead (BitVec.ofNat 16 (ptr + 1))).toNat * 256 + (s.memRead (BitVec.ofNat 16 ptr)).toNat := by
  have hptr : (b + s.x).toNat = (b.toNat + s.x.toNat) % 256 := BitVec.toNat_add b s.x
  rw [ea, State.memRead16_zext16_toNat, hptr]

theorem ea_izy_toNat (b : Byte) (s : State) :
    let base := (s.memRead (BitVec.ofNat 16 (b.toNat + 1))).toNat * 256 + (s.memRead (BitVec.ofNat 16 b.toNat)).toNat
    (ea (.izy b) s).toNat = (base + s.y.toNat) % 65536 := by
  rw [ea, add_zext16_toNat, State.memRead16_zext16_toNat]

/-- Settles O16: an index is added to the byte before it is widened or to the word after, and pointers are read flat. -/
theorem effectiveAddresses : Obligations.EffectiveAddresses := by
  intro s b w
  have himm : (ea (.imm b) s).toNat = (s.pc.toNat + 1) % 65536 := BitVec.toNat_add s.pc 1
  have hzp : (ea (.zp b) s).toNat = b.toNat := zext16_toNat b
  have hzpx : (ea (.zpx b) s).toNat = (b.toNat + s.x.toNat) % 256 := by
    rw [ea, zext16_toNat, BitVec.toNat_add]
  have hzpy : (ea (.zpy b) s).toNat = (b.toNat + s.y.toNat) % 256 := by
    rw [ea, zext16_toNat, BitVec.toNat_add]
  have habx : (ea (.abx w) s).toNat = (w.toNat + s.x.toNat) % 65536 := add_zext16_toNat w s.x
  have haby : (ea (.aby w) s).toNat = (w.toNat + s.y.toNat) % 65536 := add_zext16_toNat w s.y
  have hind : (ea (.ind w) s).toNat = (s.memRead (w + 1)).toNat * 256 + (s.memRead w).toNat := leWord_toNat _ _
  exact ⟨himm, hzp, hzpx, hzpy, rfl, habx, haby, hind, ea_izx_toNat b s, ea_izy_toNat b s,
    rfl, rfl, rfl, rfl, rfl, rfl, rfl, rfl, rfl, rfl⟩

end Sys2Proof.Machine
end

section
/-! PROOFS. Loads, stores and register transfers (41_load_store_transfer.md R120 to R131). -/

namespace Sys2Proof.Machine

/-! The forms of an instruction: what a table of rows says of the encoder and of `exec`. -/

/-- Each row has the encoding of its opcode byte and mode, and `exec` runs the row's instruction by `run` in that mode (R82,
R90). -/
def RowsRun (rows : Mode → Option (Byte × Instr)) (run : Mode → State → State) : Prop :=
  ∀ (m : Mode) (op : Byte) (i : Instr) (s : State), rows m = some (op, i) →
    encode i = op :: Forms.bytes m ∧ exec i s = .next (run m s)

/-- An encoder arm that writes a word's low byte and then its high byte, in the numbers of the row's operand bytes (R55, R82). -/
theorem encode_word {i : Instr} {op : Byte} {w : Word} (h : encode i = [op, loByte w, hiByte w]) :
    encode i = op :: [BitVec.ofNat 8 w.toNat, BitVec.ofNat 8 (w.toNat / 256)] := by
  rw [h, loByte_eq_ofNat, hiByte_eq_ofNat]

theorem rowsRun_lda : RowsRun Forms.ldaRows lda := by
  intro m op i s h
  cases m with
  | imm | zp | zpx | izx | izy => cases h; exact ⟨rfl, rfl⟩
  | abs | abx | aby => cases h; exact ⟨encode_word rfl, rfl⟩
  | zpy | ind => cases h

theorem rowsRun_ldx : RowsRun Forms.ldxRows ldx := by
  intro m op i s h
  cases m with
  | imm | zp | zpy => cases h; exact ⟨rfl, rfl⟩
  | abs | aby => cases h; exact ⟨encode_word rfl, rfl⟩
  | zpx | abx | ind | izx | izy => cases h

theorem rowsRun_ldy : RowsRun Forms.ldyRows ldy := by
  intro m op i s h
  cases m with
  | imm | zp | zpx => cases h; exact ⟨rfl, rfl⟩
  | abs | abx => cases h; exact ⟨encode_word rfl, rfl⟩
  | zpy | aby | ind | izx | izy => cases h

theorem rowsRun_sta : RowsRun Forms.staRows sta := by
  intro m op i s h
  cases m with
  | zp | zpx | izx | izy => cases h; exact ⟨rfl, rfl⟩
  | abs | abx | aby => cases h; exact ⟨encode_word rfl, rfl⟩
  | imm | zpy | ind => cases h

theorem rowsRun_stx : RowsRun Forms.stxRows stx := by
  intro m op i s h
  cases m with
  | zp | zpy => cases h; exact ⟨rfl, rfl⟩
  | abs => cases h; exact ⟨encode_word rfl, rfl⟩
  | imm | zpx | abx | aby | ind | izx | izy => cases h

theorem rowsRun_sty : RowsRun Forms.styRows sty := by
  intro m op i s h
  cases m with
  | zp | zpx => cases h; exact ⟨rfl, rfl⟩
  | abs => cases h; exact ⟨encode_word rfl, rfl⟩
  | imm | zpy | abx | aby | ind | izx | izy => cases h

/-! Where pc goes, and the two flags of `SetZN` (R23, R29). -/

/-- The opcode byte and the operand bytes are the length of the mode (R80, R81). -/
theorem length_bytes (m : Mode) : 1 + (Forms.bytes m).length = m.length := by
  cases m <;> rfl

theorem after_eq_add (m : Mode) (s : State) : Forms.after m s = s.pc + BitVec.ofNat 16 m.length := by
  rw [Forms.after, Nat.add_assoc, length_bytes, BitVec.ofNat_add, BitVec.ofNat_toNat, BitVec.setWidth_eq]

/-- An update `t` of `s` that left pc alone ends where the form in mode `m` ends. -/
theorem State.advance_length {s t : State} (hpc : t.pc = s.pc) (m : Mode) :
    t.advance m.length = { t with pc := Forms.after m s } := by
  rw [State.advance, hpc, ← after_eq_add, State.setPc]

/-- `SetZN` on an update `t` of `s` that left the flags alone writes Z and N over the flags of `s`. -/
theorem State.withZN_eq {s t : State} (hp : t.p = s.p) (v : Byte) :
    t.withZN v = { t with p := { s.p with z := decide (v = 0), n := v.getLsbD 7 } } := by
  rw [State.withZN, hp]
  rfl

/-! Loads (R120 to R122). -/

/-- What LDA, LDX and LDY share: the operand goes to a register, then `SetZN`, then pc. -/
theorem RowsRun.loads {rows : Mode → Option (Byte × Instr)} {run : Mode → State → State} {put : State → Byte → State}
    (h : RowsRun rows run) (hp : ∀ s v, (put s v).p = s.p) (hpc : ∀ s v, (put s v).pc = s.pc)
    (hrun : ∀ m s, run m s = ((put s (operand m s)).withZN (operand m s)).advance m.length) : Forms.Loads rows put := by
  intro m op i s hrow
  obtain ⟨henc, hexec⟩ := h m op i s hrow
  refine ⟨henc, ?_⟩
  have hpcZN : ((put s (operand m s)).withZN (operand m s)).pc = s.pc := hpc s _
  rw [hexec, hrun, State.advance_length hpcZN, State.withZN_eq (hp s _)]

/-- Settles O17: each row runs its load, and the load writes the register, Z and N, and pc. -/
theorem loadsPutTheOperand : Obligations.LoadsPutTheOperand :=
  ⟨rowsRun_lda.loads (fun _ _ => rfl) (fun _ _ => rfl) (fun _ _ => rfl),
    rowsRun_ldx.loads (fun _ _ => rfl) (fun _ _ => rfl) (fun _ _ => rfl),
    rowsRun_ldy.loads (fun _ _ => rfl) (fun _ _ => rfl) (fun _ _ => rfl)⟩

/-! Stores (R123 to R125). -/

/-- What STA, STX and STY share: one write at the effective address, which leaves pc to be moved. -/
theorem RowsRun.stores {rows : Mode → Option (Byte × Instr)} {run : Mode → State → State} {reg : State → Byte}
    (h : RowsRun rows run) (hrun : ∀ m s, run m s = (s.memWrite (ea m s) (reg s)).advance m.length) :
    Forms.Stores rows reg := by
  intro m op i s hrow
  obtain ⟨henc, hexec⟩ := h m op i s hrow
  refine ⟨henc, ?_⟩
  rw [hexec, hrun, State.advance_length (State.memWrite_pc s _ _)]

/-- Settles O18: each row runs its store, and where an immediate STA would stand the matrix of R84 has an illegal byte. -/
theorem storesPutTheRegister : Obligations.StoresPutTheRegister :=
  ⟨rowsRun_sta.stores fun _ _ => rfl, rowsRun_stx.stores fun _ _ => rfl, rowsRun_sty.stores fun _ _ => rfl,
    decode_of_bad rfl⟩

/-! Transfers (R126 to R131). -/

/-- What the one-byte instructions that end in `SetZN` share. -/
theorem putsZN_of_exec {op : Byte} {i : Instr} {put : State → Byte → State} {v : State → Byte} (henc : encode i = [op])
    (hp : ∀ s b, (put s b).p = s.p) (hpc : ∀ s b, (put s b).pc = s.pc)
    (hexec : ∀ s, exec i s = .next (((put s (v s)).withZN (v s)).advance 1)) : Forms.PutsZN op i put v := by
  intro s
  refine ⟨henc, ?_⟩
  rw [hexec, State.withZN_eq (hp s _), State.advance, hpc]
  rfl

/-- Settles O19: five transfers put a register and then `SetZN` of it, the sixth puts S alone (D18). -/
theorem transfersCopyTheRegister : Obligations.TransfersCopyTheRegister :=
  ⟨putsZN_of_exec rfl (fun _ _ => rfl) (fun _ _ => rfl) (fun _ => rfl),
    putsZN_of_exec rfl (fun _ _ => rfl) (fun _ _ => rfl) (fun _ => rfl),
    putsZN_of_exec rfl (fun _ _ => rfl) (fun _ _ => rfl) (fun _ => rfl),
    putsZN_of_exec rfl (fun _ _ => rfl) (fun _ _ => rfl) (fun _ => rfl),
    putsZN_of_exec rfl (fun _ _ => rfl) (fun _ _ => rfl) (fun _ => rfl),
    fun _ => ⟨rfl, rfl⟩⟩

end Sys2Proof.Machine
end

section
/-! PROOFS. The logical instructions and BIT (42_logic_bit.md R140 to R143). -/

namespace Sys2Proof.Machine

/-! What the two shared operations write. -/

/-- A, Z and N from the result, and pc: nothing else (R140 to R142). -/
theorem logicA_eq (f : Byte → Byte → Byte) (m : Mode) (s : State) :
    logicA f m s =
      { s with
        a := f s.a (operand m s)
        p := { s.p with z := decide (f s.a (operand m s) = 0), n := (f s.a (operand m s)).getLsbD 7 }
        pc := Forms.after m s } := by
  have hpc : ((s.setA (f s.a (operand m s))).withZN (f s.a (operand m s))).pc = s.pc := rfl
  rw [logicA, State.advance_length hpc, State.withZN_eq (s.setA_p _)]
  rfl

/-- Z from the and, N and V from the operand alone, and pc: A stays as it is (R143). -/
theorem bitTest_eq (m : Mode) (s : State) :
    bitTest m s =
      { s with
        p := { s.p with
          z := decide (s.a &&& operand m s = 0)
          n := (operand m s).getLsbD 7
          v := (operand m s).getLsbD 6 }
        pc := Forms.after m s } := by
  rw [bitTest, State.advance_length (s.setP_pc _)]
  rfl

/-! The forms. -/

theorem rowsRun_and : RowsRun Forms.andRows (logicA (· &&& ·)) := by
  intro m op i s h
  cases m with
  | imm | zp | zpx | izx | izy => cases h; exact ⟨rfl, rfl⟩
  | abs | abx | aby => cases h; exact ⟨encode_word rfl, rfl⟩
  | zpy | ind => cases h

theorem rowsRun_ora : RowsRun Forms.oraRows (logicA (· ||| ·)) := by
  intro m op i s h
  cases m with
  | imm | zp | zpx | izx | izy => cases h; exact ⟨rfl, rfl⟩
  | abs | abx | aby => cases h; exact ⟨encode_word rfl, rfl⟩
  | zpy | ind => cases h

theorem rowsRun_eor : RowsRun Forms.eorRows (logicA (· ^^^ ·)) := by
  intro m op i s h
  cases m with
  | imm | zp | zpx | izx | izy => cases h; exact ⟨rfl, rfl⟩
  | abs | abx | aby => cases h; exact ⟨encode_word rfl, rfl⟩
  | zpy | ind => cases h

theorem rowsRun_bit : RowsRun Forms.bitRows bitTest := by
  intro m op i s h
  cases m with
  | zp => cases h; exact ⟨rfl, rfl⟩
  | abs => cases h; exact ⟨encode_word rfl, rfl⟩
  | imm | zpx | zpy | abx | aby | ind | izx | izy => cases h

/-- What AND, ORA and EOR share: an operation on bytes that acts on each bit by `g`. -/
theorem RowsRun.logical {rows : Mode → Option (Byte × Instr)} {f : Byte → Byte → Byte} {g : Bool → Bool → Bool}
    (h : RowsRun rows (logicA f)) (hbits : ∀ a b k, (f a b).getLsbD k = g (a.getLsbD k) (b.getLsbD k)) :
    Forms.Logical rows g := by
  intro m op i s hrow
  obtain ⟨henc, hexec⟩ := h m op i s hrow
  refine ⟨henc, f s.a (operand m s), fun k _ => hbits _ _ k, ?_⟩
  rw [hexec, logicA_eq]

/-- Settles O20: each row runs its operation on A, and the three operations act on each bit alone. -/
theorem logicalResults : Obligations.LogicalResults :=
  ⟨rowsRun_and.logical fun _ _ _ => BitVec.getLsbD_and, rowsRun_ora.logical fun _ _ _ => BitVec.getLsbD_or,
    rowsRun_eor.logical fun _ _ _ => BitVec.getLsbD_xor⟩

/-- Settles O21: both rows run the shared test, which writes three flags and pc. -/
theorem bitTestsTheOperand : Obligations.BitTestsTheOperand := by
  intro m op i s hrow
  obtain ⟨henc, hexec⟩ := rowsRun_bit m op i s hrow
  refine ⟨henc, ?_⟩
  rw [hexec, bitTest_eq]

end Sys2Proof.Machine
end

section
/-! PROOFS. The binary and the decimal results as numbers (43_arithmetic_compare.md R150, R151, R153, R154). -/

namespace Sys2Proof.Machine

/-! The sign bit of a byte, and overflow (R150, R153). -/

theorem getLsbD_seven_eq_decide (v : Byte) : v.getLsbD 7 = decide (128 ≤ v.toNat) :=
  Bool.eq_iff_iff.mpr ((bit_seven_eq_true_iff v).trans decide_eq_true_iff.symm)

theorem toInt_eq_sub_sign (v : Byte) : v.toInt = (v.toNat : Int) - if 128 ≤ v.toNat then 256 else 0 := by
  have := v.isLt
  rw [BitVec.toInt_eq_toNat_cond]
  split <;> split <;> omega

/-- V of an addition: operands of one sign, a result of the other. -/
theorem bit_seven_addOverflow (a m r : Byte) :
    bit (~~~(a ^^^ m) &&& (a ^^^ r)) 7 = decide (a.getLsbD 7 = m.getLsbD 7 ∧ r.getLsbD 7 ≠ a.getLsbD 7) := by
  rw [Bool.eq_iff_iff]
  simp [bit, eq_comm (a := r[7])]

/-- V of a subtraction: operands of different signs, a result whose sign is not the minuend's. -/
theorem bit_seven_subOverflow (a m r : Byte) :
    bit ((a ^^^ m) &&& (a ^^^ r)) 7 = decide (a.getLsbD 7 ≠ m.getLsbD 7 ∧ r.getLsbD 7 ≠ a.getLsbD 7) := by
  rw [Bool.eq_iff_iff]
  simp [bit, eq_comm (a := r[7])]

/-! Binary addition and subtraction (R150, R153). -/

theorem adcBin_eq (a m : Byte) (c : Bool) :
    let sum := a.toNat + m.toNat + c.toNat
    let r : Byte := BitVec.ofNat 8 sum
    adcBin a m c =
      ⟨r, decide (256 ≤ sum), decide (a.getLsbD 7 = m.getLsbD 7 ∧ r.getLsbD 7 ≠ a.getLsbD 7)⟩ := by
  rw [adcBin, bit_seven_addOverflow]
  rfl

/-- The difference is taken modulo 256, so the borrow may be paid in advance with 256 (R153). -/
theorem ofInt_difference (a m : Byte) (c : Bool) :
    BitVec.ofInt 8 ((a.toNat : Int) - m.toNat - (1 - (c.toNat : Int))) =
      BitVec.ofNat 8 (a.toNat + 255 - m.toNat + c.toNat) := by
  have hm := m.isLt
  apply BitVec.eq_of_toNat_eq
  rw [BitVec.toNat_ofInt, BitVec.toNat_ofNat]
  omega

theorem sbcBin_eq (a m : Byte) (c : Bool) :
    let r : Byte := BitVec.ofNat 8 (a.toNat + 255 - m.toNat + c.toNat)
    sbcBin a m c =
      ⟨r, decide (m.toNat + 1 ≤ a.toNat + c.toNat), decide (a.getLsbD 7 ≠ m.getLsbD 7 ∧ r.getLsbD 7 ≠ a.getLsbD 7)⟩ := by
  have hnoBorrow : (0 ≤ (a.toNat : Int) - m.toNat - (1 - (c.toNat : Int))) = (m.toNat + 1 ≤ a.toNat + c.toNat) := by
    apply propext
    omega
  simp only [sbcBin, bit_seven_subOverflow, ofInt_difference, hnoBorrow]

/-- V by the signs of operands and result is V by the range of the signed sum: each sign is a comparison with 128 (R150). -/
theorem adcBin_overflow_iff_signed (a m : Byte) (c : Bool) :
    (adcBin a m c).v = true ↔ a.toInt + m.toInt + c.toNat < -128 ∨ 127 < a.toInt + m.toInt + c.toNat := by
  have ha := a.isLt
  have hm := m.isLt
  have hc := c.toNat_le
  simp only [adcBin_eq, getLsbD_seven_eq_decide, toInt_eq_sub_sign, BitVec.toNat_ofNat, decide_eq_true_eq, ne_eq,
    decide_eq_decide]
  split <;> split <;> omega

/-- Settles O22: the three results of `AdcBin` as numbers, and V by signs is V by the signed sum. -/
theorem adcBinIsTheNineBitSum : Obligations.AdcBinIsTheNineBitSum := by
  intro a m c
  refine ⟨?_, ?_, ?_, adcBin_overflow_iff_signed a m c⟩
  · exact BitVec.toNat_ofNat _ 8
  · exact decide_eq_true_iff
  · rw [adcBin_eq]; exact decide_eq_true_iff

theorem toNat_complement (m : Byte) : (m ^^^ 0xFF).toNat = 255 - m.toNat := by
  have hnot : m ^^^ 0xFF = ~~~m := BitVec.xor_allOnes
  rw [hnot, BitVec.toNat_not]

/-- The spec's inference at R153. -/
theorem sbcBin_eq_adcBin_complement (a m : Byte) (c : Bool) : sbcBin a m c = adcBin a (m ^^^ 0xFF) c := by
  have hm := m.isLt
  have hsum : a.toNat + 255 - m.toNat + c.toNat = a.toNat + (m ^^^ 0xFF).toNat + c.toNat := by
    rw [toNat_complement]; omega
  have hcarry : (m.toNat + 1 ≤ a.toNat + c.toNat) = (256 ≤ a.toNat + (m ^^^ 0xFF).toNat + c.toNat) := by
    rw [toNat_complement]; apply propext; omega
  have hsign : (m ^^^ 0xFF).getLsbD 7 = !m.getLsbD 7 := by simp
  have hdiffer : (a.getLsbD 7 ≠ m.getLsbD 7) = (a.getLsbD 7 = (m ^^^ 0xFF).getLsbD 7) := by
    rw [hsign, Bool.eq_not]
  simp only [sbcBin_eq, adcBin_eq, hsum, hcarry, hdiffer]

/-- Settles O23: the three results of `SbcBin` as numbers, and the complement law. -/
theorem sbcBinIsTheNineBitDifference : Obligations.SbcBinIsTheNineBitDifference := by
  intro a m c
  refine ⟨?_, ?_, ?_, sbcBin_eq_adcBin_complement a m c⟩
  · rw [sbcBin, BitVec.toNat_ofInt]; omega
  · rw [sbcBin_eq]; exact decide_eq_true_iff
  · rw [sbcBin_eq]; exact decide_eq_true_iff

/-- Without carry in and without borrow in, the subtraction takes back what the addition gave (R155, C2). -/
theorem sbcBin_adcBin_r (a m : Byte) : (sbcBin (adcBin a m false).r m true).r = a := by
  have ha := a.isLt
  have hm := m.isLt
  apply BitVec.eq_of_toNat_eq
  simp only [sbcBin_eq, adcBin_eq, BitVec.toNat_ofNat, Bool.toNat_false, Bool.toNat_true]
  omega

/-! Decimal addition and subtraction on every operand (R151, R154). -/

theorem adcDec_eq (a m : Byte) (c : Bool) :
    let o := Forms.decimalSum a.toNat m.toNat c.toNat
    adcDec a m c = ⟨BitVec.ofNat 8 o.1, o.2⟩ := by
  have hcorrect (d : Nat) : (if 9 < d then d + 6 else d) = if d ≤ 9 then d else d + 6 := by
    simp only [← Nat.not_le, ite_not]
  simp only [adcDec, Forms.decimalSum, hcorrect]
  rfl

theorem sbcDec_eq (a m : Byte) (c : Bool) :
    let o := Forms.decimalDifference a.toNat m.toNat c.toNat
    sbcDec a m c = ⟨BitVec.ofInt 8 o.1, o.2⟩ := rfl

theorem decimalSum_lt (a m c : Nat) : (Forms.decimalSum a m c).1 < 256 := by
  simp only [Forms.decimalSum]
  omega

theorem decimalDifference_nonneg_lt (a m c : Int) :
    0 ≤ (Forms.decimalDifference a m c).1 ∧ (Forms.decimalDifference a m c).1 < 256 := by
  simp only [Forms.decimalDifference]
  omega

/-! Decimal addition and subtraction on valid BCD (R151, R154): a digit after its correction by 6 is, modulo 16, the digit
before it modulo 10. -/

theorem correctedSum_mod {d : Nat} (h : d ≤ 19) : (if d ≤ 9 then d else d + 6) % 16 = d % 10 := by
  split <;> omega

theorem correctedSum_carries_iff (d : Nat) : 16 ≤ (if d ≤ 9 then d else d + 6) ↔ 10 ≤ d := by
  split <;> omega

theorem correctedDifference_mod {d : Int} (hlo : -10 ≤ d) (hhi : d ≤ 9) :
    (if d < 0 then d - 6 else d) % 16 = d % 10 := by
  split <;> omega

/-- On valid BCD the digit sums, carry by carry, are the sum in base 100. -/
theorem decimalSum_of_digits {a m c : Nat} (hahi : a / 16 ≤ 9) (halo : a % 16 ≤ 9) (hmhi : m / 16 ≤ 9)
    (hmlo : m % 16 ≤ 9) (hc : c ≤ 1) :
    let sum := (a / 16 * 10 + a % 16) + (m / 16 * 10 + m % 16) + c
    Forms.decimalSum a m c = (sum % 100 / 10 * 16 + sum % 100 % 10, decide (100 ≤ sum)) := by
  have hlo : a % 16 + m % 16 + c ≤ 19 := by omega
  have hhi : a / 16 + m / 16 + (if 10 ≤ a % 16 + m % 16 + c then 1 else 0) ≤ 19 := by split <;> omega
  simp only [Forms.decimalSum, correctedSum_carries_iff, correctedSum_mod hlo, correctedSum_mod hhi, Prod.mk.injEq,
    decide_eq_decide]
  split <;> omega

/-- On valid BCD the digit differences, borrow by borrow, are the difference in base 100 (D13). -/
theorem decimalDifference_of_digits {a m : Nat} {c : Int} (hahi : a / 16 ≤ 9) (halo : a % 16 ≤ 9) (hmhi : m / 16 ≤ 9)
    (hmlo : m % 16 ≤ 9) (hc : 0 ≤ c ∧ c ≤ 1) :
    let diff : Int := (a / 16 * 10 + a % 16 : Nat) - (m / 16 * 10 + m % 16 : Nat) - (1 - c)
    Forms.decimalDifference a m c = (diff % 100 / 10 * 16 + diff % 100 % 10, decide (0 ≤ diff)) := by
  have hlo := correctedDifference_mod (d := (a : Int) % 16 - (m : Int) % 16 - (1 - c)) (by omega) (by omega)
  have hhi := correctedDifference_mod
    (d := (a : Int) / 16 - (m : Int) / 16 - (if (a : Int) % 16 - (m : Int) % 16 - (1 - c) < 0 then 1 else 0))
    (by split <;> omega) (by split <;> omega)
  simp only [Forms.decimalDifference, hlo, hhi, Prod.mk.injEq, decide_eq_decide]
  split <;> omega

theorem adcDec_of_isBcd {a m : Byte} (c : Bool) (ha : Forms.isBcd a) (hm : Forms.isBcd m) :
    let sum := Forms.dec a + Forms.dec m + c.toNat
    adcDec a m c = ⟨Forms.bcd (sum % 100), decide (100 ≤ sum)⟩ := by
  obtain ⟨hahi, halo⟩ := ha
  obtain ⟨hmhi, hmlo⟩ := hm
  simp only [adcDec_eq, decimalSum_of_digits hahi halo hmhi hmlo c.toNat_le]
  rfl

theorem bcd_toNat_eq_ofInt {d : Int} (h : 0 ≤ d) : Forms.bcd d.toNat = BitVec.ofInt 8 (d / 10 * 16 + d % 10) := by
  obtain ⟨n, rfl⟩ := Int.eq_ofNat_of_zero_le h
  exact (BitVec.ofInt_natCast 8 _).symm

theorem sbcDec_of_isBcd {a m : Byte} (c : Bool) (ha : Forms.isBcd a) (hm : Forms.isBcd m) :
    let diff : Int := (Forms.dec a : Int) - Forms.dec m - (1 - (c.toNat : Int))
    sbcDec a m c = ⟨Forms.bcd (diff % 100).toNat, decide (0 ≤ diff)⟩ := by
  obtain ⟨hahi, halo⟩ := ha
  obtain ⟨hmhi, hmlo⟩ := hm
  have hle := c.toNat_le
  have hc : 0 ≤ (c.toNat : Int) ∧ (c.toNat : Int) ≤ 1 := by omega
  intro diff
  have hdiff : 0 ≤ diff % 100 := Int.emod_nonneg _ (by decide)
  rw [sbcDec_eq, decimalDifference_of_digits hahi halo hmhi hmlo hc, bcd_toNat_eq_ofInt hdiff]
  rfl

theorem validBcd_of_isBcd {v : Byte} (h : Forms.isBcd v) : validBcd v = true := by
  obtain ⟨hhi, hlo⟩ := h
  simp [validBcd, hhi, hlo]

end Sys2Proof.Machine
end

section
/-! PROOFS. The forms of ADC, SBC and the compares (43_arithmetic_compare.md R152, R155 to R159). -/

namespace Sys2Proof.Machine

/-! The forms. -/

theorem rowsRun_adc : RowsRun Forms.adcRows adc := by
  intro m op i s h
  cases m with
  | imm | zp | zpx | izx | izy => cases h; exact ⟨rfl, rfl⟩
  | abs | abx | aby => cases h; exact ⟨encode_word rfl, rfl⟩
  | zpy | ind => cases h

theorem rowsRun_sbc : RowsRun Forms.sbcRows sbc := by
  intro m op i s h
  cases m with
  | imm | zp | zpx | izx | izy => cases h; exact ⟨rfl, rfl⟩
  | abs | abx | aby => cases h; exact ⟨encode_word rfl, rfl⟩
  | zpy | ind => cases h

theorem rowsRun_cmp : RowsRun Forms.cmpRows cmp := by
  intro m op i s h
  cases m with
  | imm | zp | zpx | izx | izy => cases h; exact ⟨rfl, rfl⟩
  | abs | abx | aby => cases h; exact ⟨encode_word rfl, rfl⟩
  | zpy | ind => cases h

theorem rowsRun_cpx : RowsRun Forms.cpxRows cpx := by
  intro m op i s h
  cases m with
  | imm | zp => cases h; exact ⟨rfl, rfl⟩
  | abs => cases h; exact ⟨encode_word rfl, rfl⟩
  | zpx | zpy | abx | aby | ind | izx | izy => cases h

theorem rowsRun_cpy : RowsRun Forms.cpyRows cpy := by
  intro m op i s h
  cases m with
  | imm | zp => cases h; exact ⟨rfl, rfl⟩
  | abs => cases h; exact ⟨encode_word rfl, rfl⟩
  | zpx | zpy | abx | aby | ind | izx | izy => cases h

/-! What ADC and SBC share: the mode that D selects, the write of A and four flags, the counter of free values (R152, R155). -/

/-- ADC or SBC after its binary and its decimal result. -/
def accumulate (bin : AluOut) (dec : BcdOut) (m : Mode) (s : State) : State :=
  writeAcc (accOut s.p.d s.cfg.decimalOpen (validBcd s.a && validBcd (operand m s)) bin dec s.draws) (drawDecimal s)
    |>.advance m.length

theorem adc_eq_accumulate (m : Mode) (s : State) :
    adc m s = accumulate (adcBin s.a (operand m s) s.p.c) (adcDec s.a (operand m s) s.p.c) m s := rfl

theorem sbc_eq_accumulate (m : Mode) (s : State) :
    sbc m s = accumulate (sbcBin s.a (operand m s) s.p.c) (sbcDec s.a (operand m s) s.p.c) m s := rfl

theorem writeAcc_drawDecimal_advance (o : AccOut) (m : Mode) (s : State) :
    (writeAcc o (drawDecimal s)).advance m.length =
      { s with
        a := o.r
        p := { s.p with n := o.n, v := o.v, z := o.z, c := o.c }
        pc := Forms.after m s
        draws := (drawDecimal s).draws } := by
  obtain ⟨k, hk⟩ := drawDecimal_eq s
  have hpc : (writeAcc o (s.setDraws k)).pc = s.pc := rfl
  rw [hk, State.advance_length hpc]
  rfl

/-- D = 0: everything is the binary result's, and nothing is drawn. -/
theorem accumulate_binary (bin : AluOut) (dec : BcdOut) (m : Mode) {s : State} (hd : s.p.d = false) :
    accumulate bin dec m s =
      { s with
        a := bin.r
        p := { s.p with c := bin.c, v := bin.v, z := decide (bin.r = 0), n := bin.r.getLsbD 7 }
        pc := Forms.after m s } := by
  have hdraw : drawDecimal s = s := by simp [drawDecimal, hd]
  rw [accumulate, writeAcc_drawDecimal_advance, hdraw, hd]
  rfl

/-- D = 1 with the spec's own decisions: only V is the binary result's (D11, D12). -/
theorem accumulate_decimal_closed (bin : AluOut) (dec : BcdOut) (m : Mode) {s : State} (hd : s.p.d = true)
    (hclosed : s.cfg.decimalOpen = false) :
    accumulate bin dec m s =
      { s with
        a := dec.r
        p := { s.p with c := dec.c, v := bin.v, z := decide (dec.r = 0), n := dec.r.getLsbD 7 }
        pc := Forms.after m s } := by
  have hdraw : drawDecimal s = s := by simp [drawDecimal, hclosed]
  rw [accumulate, writeAcc_drawDecimal_advance, hdraw, hd, hclosed]
  rfl

/-- D = 1 on valid BCD: A and C are the decimal result's in both settings of `decimalOpen` (U1, U2). -/
theorem accumulate_decimal_bcd (bin : AluOut) (dec : BcdOut) {m : Mode} {s : State} (hd : s.p.d = true)
    (ha : Forms.isBcd s.a) (hm : Forms.isBcd (operand m s)) :
    ∃ (n v z : Bool) (k : Nat), accumulate bin dec m s =
      { s with
        a := dec.r, p := { s.p with c := dec.c, n := n, v := v, z := z }, pc := Forms.after m s, draws := k } := by
  rw [accumulate, writeAcc_drawDecimal_advance, validBcd_of_isBcd ha, validBcd_of_isBcd hm, hd]
  cases s.cfg.decimalOpen with
  | false => exact ⟨_, _, _, _, rfl⟩
  | true => exact ⟨_, _, _, _, rfl⟩

/-! ADC and SBC. -/

/-- Settles O24: with D = 0 a row of ADC writes what `adcBin` answers. -/
theorem binaryAdcResult : Obligations.BinaryAdcResult := by
  intro m op i s hrow hd
  obtain ⟨henc, hexec⟩ := rowsRun_adc m op i s hrow
  refine ⟨henc, ?_⟩
  rw [hexec, adc_eq_accumulate, accumulate_binary _ _ m hd, adcBin_eq]

/-- Settles O25: with D = 0 a row of SBC writes what `sbcBin` answers. -/
theorem binarySbcResult : Obligations.BinarySbcResult := by
  intro m op i s hrow hd
  obtain ⟨henc, hexec⟩ := rowsRun_sbc m op i s hrow
  refine ⟨henc, ?_⟩
  rw [hexec, sbc_eq_accumulate, accumulate_binary _ _ m hd, sbcBin_eq]

/-- Settles O26: on valid BCD the digit rule of `adcDec` is the sum in base 100, and its A and C are written in both settings. -/
theorem decimalAdcOnBcd : Obligations.DecimalAdcOnBcd := by
  intro m op i s hrow hd ha hm sum
  obtain ⟨-, hexec⟩ := rowsRun_adc m op i s hrow
  obtain ⟨n, v, z, k, hacc⟩ := accumulate_decimal_bcd (adcBin s.a (operand m s) s.p.c)
    (adcDec s.a (operand m s) s.p.c) hd ha hm
  refine ⟨n, v, z, k, ?_⟩
  rw [hexec, adc_eq_accumulate, hacc, adcDec_of_isBcd _ ha hm]

/-- Settles O27: on valid BCD the digit rule of `sbcDec` is the difference in base 100, and its A and C are written in both
settings. -/
theorem decimalSbcOnBcd : Obligations.DecimalSbcOnBcd := by
  intro m op i s hrow hd ha hm diff
  obtain ⟨-, hexec⟩ := rowsRun_sbc m op i s hrow
  obtain ⟨n, v, z, k, hacc⟩ := accumulate_decimal_bcd (sbcBin s.a (operand m s) s.p.c)
    (sbcDec s.a (operand m s) s.p.c) hd ha hm
  refine ⟨n, v, z, k, ?_⟩
  rw [hexec, sbc_eq_accumulate, hacc, sbcDec_of_isBcd _ ha hm]

/-- Settles O28: the digit rules fit a byte on every operand, and with `decimalOpen` false they give A, C, Z and N. -/
theorem decimalByTheSpecsDecisions : Obligations.DecimalByTheSpecsDecisions := by
  refine ⟨?_, ?_⟩
  · intro m op i s hrow hd hclosed v o r bin
    obtain ⟨-, hexec⟩ := rowsRun_adc m op i s hrow
    refine ⟨Nat.mod_eq_of_lt (decimalSum_lt _ _ _), ?_⟩
    rw [hexec, adc_eq_accumulate, accumulate_decimal_closed _ _ m hd hclosed, adcDec_eq, adcBin_eq]
  · intro m op i s hrow hd hclosed v o r bin
    obtain ⟨-, hexec⟩ := rowsRun_sbc m op i s hrow
    obtain ⟨hnonneg, hlt⟩ : 0 ≤ o.1 ∧ o.1 < 256 := decimalDifference_nonneg_lt _ _ _
    refine ⟨?_, ?_⟩
    · rw [BitVec.toNat_ofInt]; omega
    · rw [hexec, sbc_eq_accumulate, accumulate_decimal_closed _ _ m hd hclosed, sbcDec_eq, sbcBin_eq]

/-- Settles O29: whatever the mode answers, A, four flags, pc and the counter are all that is written. -/
theorem decimalAlwaysCompletes : Obligations.DecimalAlwaysCompletes := by
  intro m op i s hrow _
  obtain hrow | hrow := hrow
  · obtain ⟨-, hexec⟩ := rowsRun_adc m op i s hrow
    rw [hexec, adc_eq_accumulate, accumulate, writeAcc_drawDecimal_advance]
    exact ⟨_, _, _, _, _, _, rfl⟩
  · obtain ⟨-, hexec⟩ := rowsRun_sbc m op i s hrow
    rw [hexec, sbc_eq_accumulate, accumulate, writeAcc_drawDecimal_advance]
    exact ⟨_, _, _, _, _, _, rfl⟩

theorem adc_a_of_binary (m : Mode) {s : State} (hd : s.p.d = false) :
    (adc m s).a = (adcBin s.a (operand m s) s.p.c).r := by
  rw [adc_eq_accumulate, accumulate_binary _ _ m hd]

theorem sbc_a_of_binary (m : Mode) {s : State} (hd : s.p.d = false) :
    (sbc m s).a = (sbcBin s.a (operand m s) s.p.c).r := by
  rw [sbc_eq_accumulate, accumulate_binary _ _ m hd]

theorem adc_d (m : Mode) (s : State) : (adc m s).p.d = s.p.d := by
  rw [adc_eq_accumulate, accumulate, State.advance_p, writeAcc_drawDecimal_p]

/-- Settles O30: both run in binary mode, where the difference takes back the sum. -/
theorem adcThenSbcRestoresA : Obligations.AdcThenSbcRestoresA := by
  intro v s t u hd hc hadc hsbc
  have ht : adc (.imm v) s = t := Host.Outcome.next.inj hadc
  have hu : sbc (.imm v) { t with p := { t.p with c := true } } = u := Host.Outcome.next.inj hsbc
  have hdt : t.p.d = false := by rw [← ht, adc_d, hd]
  have hta : t.a = (adcBin s.a v false).r := by rw [← ht, adc_a_of_binary _ hd, hc]; rfl
  calc
    u.a = (sbcBin t.a v true).r := by rw [← hu]; exact sbc_a_of_binary _ hdt
    _ = (sbcBin (adcBin s.a v false).r v true).r := by rw [hta]
    _ = s.a := sbcBin_adcBin_r s.a v

/-! The compares (R156 to R159). -/

theorem compare_eq (p : Flags) (r v : Byte) :
    p.compare r v =
      { p with
        c := decide (v.toNat ≤ r.toNat)
        z := decide (r = v)
        n := decide (128 ≤ (r.toNat + 256 - v.toNat) % 256) } := by
  have hv := v.isLt
  have hdiff : (r - v).toNat = (r.toNat + 256 - v.toNat) % 256 := by
    rw [BitVec.toNat_sub]; omega
  have hn : bit (r - v) 7 = decide (128 ≤ (r.toNat + 256 - v.toNat) % 256) := by
    rw [bit, getLsbD_seven_eq_decide, hdiff]
  rw [Flags.compare, hn]
  rfl

/-- What CMP, CPX and CPY share: three flags from the register and the operand, then pc. -/
theorem RowsRun.compares {rows : Mode → Option (Byte × Instr)} {run : Mode → State → State} {reg : State → Byte}
    (h : RowsRun rows run) (hrun : ∀ m s, run m s = (s.setP (s.p.compare (reg s) (operand m s))).advance m.length) :
    Forms.Compares rows reg := by
  intro m op i s hrow
  obtain ⟨henc, hexec⟩ := h m op i s hrow
  refine ⟨henc, ?_⟩
  rw [hexec, hrun, State.advance_length (s.setP_pc _), compare_eq]
  rfl

/-- Settles O31: each row runs its compare, in which D plays no part. -/
theorem comparesWriteCZN : Obligations.ComparesWriteCZN :=
  ⟨rowsRun_cmp.compares fun _ _ => rfl, rowsRun_cpx.compares fun _ _ => rfl, rowsRun_cpy.compares fun _ _ => rfl⟩

end Sys2Proof.Machine
end

section
/-! PROOFS. Shifts, rotates, increments and decrements (44_shift_incdec.md R170 to R180). -/

namespace Sys2Proof.Machine

/-! The forms. -/

theorem rowsRun_asl : RowsRun Forms.aslRows asl := by
  intro m op i s h
  cases m with
  | zp | zpx => cases h; exact ⟨rfl, rfl⟩
  | abs | abx => cases h; exact ⟨encode_word rfl, rfl⟩
  | imm | zpy | aby | ind | izx | izy => cases h

theorem rowsRun_lsr : RowsRun Forms.lsrRows lsr := by
  intro m op i s h
  cases m with
  | zp | zpx => cases h; exact ⟨rfl, rfl⟩
  | abs | abx => cases h; exact ⟨encode_word rfl, rfl⟩
  | imm | zpy | aby | ind | izx | izy => cases h

theorem rowsRun_rol : RowsRun Forms.rolRows rol := by
  intro m op i s h
  cases m with
  | zp | zpx => cases h; exact ⟨rfl, rfl⟩
  | abs | abx => cases h; exact ⟨encode_word rfl, rfl⟩
  | imm | zpy | aby | ind | izx | izy => cases h

theorem rowsRun_ror : RowsRun Forms.rorRows ror := by
  intro m op i s h
  cases m with
  | zp | zpx => cases h; exact ⟨rfl, rfl⟩
  | abs | abx => cases h; exact ⟨encode_word rfl, rfl⟩
  | imm | zpy | aby | ind | izx | izy => cases h

theorem rowsRun_inc : RowsRun Forms.incRows incMem := by
  intro m op i s h
  cases m with
  | zp | zpx => cases h; exact ⟨rfl, rfl⟩
  | abs | abx => cases h; exact ⟨encode_word rfl, rfl⟩
  | imm | zpy | aby | ind | izx | izy => cases h

theorem rowsRun_dec : RowsRun Forms.decRows decMem := by
  intro m op i s h
  cases m with
  | zp | zpx => cases h; exact ⟨rfl, rfl⟩
  | abs | abx => cases h; exact ⟨encode_word rfl, rfl⟩
  | imm | zpy | aby | ind | izx | izy => cases h

/-! The results as numbers (R171 to R174). A rotate puts the old carry where its shift left a 0, so its `or` is a sum. -/

theorem shiftLeft_one_eq_ofNat (v : Byte) : v <<< 1 = BitVec.ofNat 8 (v.toNat * 2) := by
  apply BitVec.eq_of_toNat_eq
  rw [BitVec.toNat_shiftLeft, Nat.shiftLeft_eq, BitVec.toNat_ofNat]

theorem ushiftRight_one_eq_ofNat (v : Byte) : v >>> 1 = BitVec.ofNat 8 (v.toNat / 2) := by
  rw [← Nat.shiftRight_one, ← BitVec.toNat_ushiftRight, BitVec.ofNat_toNat, BitVec.setWidth_eq]

theorem setWidth_ofBool_eq_ofNat (c : Bool) : (BitVec.ofBool c).setWidth 8 = BitVec.ofNat 8 c.toNat := by
  cases c <;> rfl

theorem setWidth_ofBool_shiftLeft_seven_eq_ofNat (c : Bool) :
    (BitVec.ofBool c).setWidth 8 <<< 7 = BitVec.ofNat 8 (c.toNat * 128) := by
  cases c <;> rfl

theorem aslOut_eq (v : Byte) : aslOut v = ⟨BitVec.ofNat 8 (v.toNat * 2), v.getLsbD 7⟩ := by
  rw [aslOut, shiftLeft_one_eq_ofNat, bit]

theorem lsrOut_eq (v : Byte) : lsrOut v = ⟨BitVec.ofNat 8 (v.toNat / 2), v.getLsbD 0⟩ := by
  rw [lsrOut, ushiftRight_one_eq_ofNat, bit]

theorem rolOut_eq (c : Bool) (v : Byte) : rolOut c v = ⟨BitVec.ofNat 8 (v.toNat * 2 + c.toNat), v.getLsbD 7⟩ := by
  have hdisjoint : v <<< 1 &&& (BitVec.ofBool c).setWidth 8 = 0 := by
    ext k hk
    cases k with
    | zero => simp
    | succ k => simp
  rw [rolOut, ← BitVec.add_eq_or_of_and_eq_zero _ _ hdisjoint, shiftLeft_one_eq_ofNat, setWidth_ofBool_eq_ofNat,
    ← BitVec.ofNat_add, bit]

theorem rorOut_eq (c : Bool) (v : Byte) : rorOut c v = ⟨BitVec.ofNat 8 (v.toNat / 2 + c.toNat * 128), v.getLsbD 0⟩ := by
  have hdisjoint : v >>> 1 &&& (BitVec.ofBool c).setWidth 8 <<< 7 = 0 := by
    ext k hk
    by_cases hlow : k < 7
    · simp [hlow]
    · simp [BitVec.getLsbD_of_ge v (1 + k) (by omega)]
  rw [rorOut, ← BitVec.add_eq_or_of_and_eq_zero _ _ hdisjoint, ushiftRight_one_eq_ofNat,
    setWidth_ofBool_shiftLeft_seven_eq_ofNat, ← BitVec.ofNat_add, bit]

/-! Shifts and rotates (R170 to R174). -/

/-- One write at the effective address, the three flags, and pc: nothing else. -/
theorem shiftMem_eq (f : Byte → ShiftOut) (m : Mode) (s : State) :
    let o := f (s.memRead (ea m s))
    shiftMem f m s =
      { s.memWrite (ea m s) o.r with
        p := { s.p with c := o.c, z := decide (o.r = 0), n := o.r.getLsbD 7 }
        pc := Forms.after m s } := by
  intro o
  have hpc : ((s.memWrite (ea m s) o.r).setP (s.p.shift o)).pc = s.pc := s.memWrite_pc _ _
  rw [shiftMem, State.advance_length hpc]
  rfl

/-- What ASL, LSR, ROL and ROR share: `f` gives the result from the old carry and the old byte, in memory or in A. -/
theorem RowsRun.shifts {rows : Mode → Option (Byte × Instr)} {run : Mode → State → State} {f : Bool → Byte → ShiftOut}
    {accOp : Byte} {acc : Instr} {r : Nat → Nat → Nat} {out : Nat} (h : RowsRun rows run)
    (hrun : ∀ m s, run m s = shiftMem (f s.p.c) m s) (henc : encode acc = [accOp])
    (hacc : ∀ s, exec acc s = .next (shiftAcc (f s.p.c) s))
    (hf : ∀ c v, f c v = ⟨BitVec.ofNat 8 (r c.toNat v.toNat), v.getLsbD out⟩) :
    Forms.Shifts rows accOp acc r out := by
  refine ⟨?_, ?_⟩
  · intro m op i s hrow
    obtain ⟨hrowEnc, hexec⟩ := h m op i s hrow
    refine ⟨hrowEnc, ?_⟩
    rw [hexec, hrun, shiftMem_eq, hf]
  · intro s
    refine ⟨henc, ?_⟩
    rw [hacc, shiftAcc, hf]
    rfl

/-- Settles O32: each row and the accumulator form run one shift, whose result and carry out are the numbers of the spec. -/
theorem shiftsAndRotates : Obligations.ShiftsAndRotates :=
  ⟨rowsRun_asl.shifts (fun _ _ => rfl) rfl (fun _ => rfl) fun _ => aslOut_eq,
    rowsRun_lsr.shifts (fun _ _ => rfl) rfl (fun _ => rfl) fun _ => lsrOut_eq,
    rowsRun_rol.shifts (fun _ _ => rfl) rfl (fun _ => rfl) rolOut_eq,
    rowsRun_ror.shifts (fun _ _ => rfl) rfl (fun _ => rfl) rorOut_eq⟩

/-! Increments and decrements (R175 to R180). -/

theorem add_one_eq_ofNat (v : Byte) : v + 1 = BitVec.ofNat 8 (v.toNat + 1) := by bv_omega

theorem sub_one_eq_ofNat (v : Byte) : v - 1 = BitVec.ofNat 8 (v.toNat + 255) := by bv_omega

/-- One write at the effective address, Z and N, and pc: nothing else. -/
theorem modifyMem_eq (f : Byte → Byte) (m : Mode) (s : State) :
    let r := f (s.memRead (ea m s))
    modifyMem f m s =
      { s.memWrite (ea m s) r with
        p := { s.p with z := decide (r = 0), n := r.getLsbD 7 }
        pc := Forms.after m s } := by
  intro r
  have hpc : ((s.memWrite (ea m s) r).withZN r).pc = s.pc := s.memWrite_pc _ _
  rw [modifyMem, State.advance_length hpc, State.withZN_eq (s.memWrite_p _ _)]

/-- What INC and DEC share. -/
theorem RowsRun.modifies {rows : Mode → Option (Byte × Instr)} {f : Byte → Byte} {k : Nat}
    (h : RowsRun rows (modifyMem f)) (hf : ∀ v, f v = BitVec.ofNat 8 (v.toNat + k)) : Forms.Modifies rows k := by
  intro m op i s hrow
  obtain ⟨henc, hexec⟩ := h m op i s hrow
  refine ⟨henc, ?_⟩
  rw [hexec, modifyMem_eq, hf]

/-- Settles O33: each row runs its change of one byte, and 1 less is 255 more modulo 256. -/
theorem incDecMemory : Obligations.IncDecMemory :=
  ⟨rowsRun_inc.modifies add_one_eq_ofNat, rowsRun_dec.modifies sub_one_eq_ofNat⟩

/-- Settles O34: each puts its register plus or minus 1 and then `SetZN` of it, as the transfers do. -/
theorem incDecIndexRegisters : Obligations.IncDecIndexRegisters :=
  ⟨putsZN_of_exec rfl (fun _ _ => rfl) (fun _ _ => rfl) fun s => by rw [← add_one_eq_ofNat]; rfl,
    putsZN_of_exec rfl (fun _ _ => rfl) (fun _ _ => rfl) fun s => by rw [← add_one_eq_ofNat]; rfl,
    putsZN_of_exec rfl (fun _ _ => rfl) (fun _ _ => rfl) fun s => by rw [← sub_one_eq_ofNat]; rfl,
    putsZN_of_exec rfl (fun _ _ => rfl) (fun _ _ => rfl) fun s => by rw [← sub_one_eq_ofNat]; rfl⟩

end Sys2Proof.Machine
end

section
/-! PROOFS. Stack instructions, flag instructions and NOP (45_stack_flag_nop.md R190 to R201). -/

namespace Sys2Proof.Machine

/-! Pushes (R190, R191). -/

/-- What PHA and PHP share: one write at the stack address of the old S, then S and pc (R61). -/
theorem State.push8_advance_one (s : State) (v : Byte) :
    (s.push8 v).advance 1 =
      { s.memWrite (BitVec.ofNat 16 (s.cfg.stackPage.toNat * 256 + s.sp.toNat)) v with
        sp := s.sp - 1, pc := s.pc + 1 } := by
  rw [State.advance, State.push8_pc, ← stackAddr_eq_ofNat]
  rfl

/-- The Break marker of PHP and the reserved bit together weigh 48 (R27, D4). -/
theorem Flags.toByte_true (p : Flags) :
    p.toByte true = BitVec.ofNat 8 (p.n.toNat * 128 + p.v.toNat * 64 + 48 + p.d.toNat * 8 + p.i.toNat * 4
      + p.z.toNat * 2 + p.c.toNat) := by
  simp [Flags.toByte]

/-- Settles O35: both push a byte by `Push8` and go on, PHA the accumulator and PHP the byte of P with Break marker 1. -/
theorem pushesStoreAtTheStackAddress : Obligations.PushesStoreAtTheStackAddress := by
  intro s at_ flags
  have hpha : exec .pha s = .next ((s.push8 s.a).advance 1) := rfl
  have hphp : exec .php s = .next ((s.push8 (s.p.toByte true)).advance 1) := rfl
  refine ⟨rfl, ?_, rfl, ?_⟩
  · rw [hpha, State.push8_advance_one]
  · rw [hphp, State.push8_advance_one, Flags.toByte_true]

/-! Pulls (R192, R193). -/

/-- The address of a pull in the numbers of the spec: S is incremented modulo 256 before the read (R60, R62). -/
theorem State.popByte_eq (s : State) :
    s.popByte = s.memRead (BitVec.ofNat 16 (s.cfg.stackPage.toNat * 256 + (s.sp.toNat + 1) % 256)) := by
  have hsp : (s.sp + 1).toNat = (s.sp.toNat + 1) % 256 := BitVec.toNat_add s.sp 1
  rw [State.popByte, stackAddr_eq_ofNat, hsp]

/-- PLA writes S, A, two flags and pc (R192). -/
theorem pullA_eq (s : State) :
    pullA s = { s with
      a := s.popByte
      sp := s.sp + 1
      p := { s.p with z := decide (s.popByte = 0), n := s.popByte.getLsbD 7 }
      pc := s.pc + 1 } := by
  have hp : (s.popped8.setA s.popByte).p = s.p := rfl
  rw [pullA, State.withZN_eq hp]
  rfl

/-- PLP writes S, the six flags from their bits, and pc (R28, R193). -/
theorem pullP_eq (s : State) :
    pullP s = { s with
      sp := s.sp + 1
      p := ⟨s.popByte.getLsbD 7, s.popByte.getLsbD 6, s.popByte.getLsbD 3, s.popByte.getLsbD 2, s.popByte.getLsbD 1,
        s.popByte.getLsbD 0⟩
      pc := s.pc + 1 } :=
  rfl

/-- Settles O36: both pull the byte of `Pop8`, PLA as a load of A and PLP as a write of P. -/
theorem pullsReadTheNextStackByte : Obligations.PullsReadTheNextStackByte := by
  intro s v
  have hpla : exec .pla s = .next (pullA s) := rfl
  have hplp : exec .plp s = .next (pullP s) := rfl
  have hv : s.popByte = v := s.popByte_eq
  refine ⟨rfl, ?_, rfl, ?_⟩
  · rw [hpla, pullA_eq, hv]
  · rw [hplp, pullP_eq, hv]

/-! Flag instructions and NOP (R194 to R201). -/

/-- What the one-byte instructions share that write the flags and go on. -/
theorem setsFlags_of_exec {op : Byte} {i : Instr} {f : Flags → Flags} (henc : encode i = [op])
    (hexec : ∀ s, exec i s = .next ((s.setP (f s.p)).advance 1)) : Forms.SetsFlags op i f := by
  intro s
  refine ⟨henc, ?_⟩
  rw [hexec, State.advance, State.setP_pc]
  rfl

/-- Settles O37: seven put one flag by `setP`, and NOP puts the flags back as they are. -/
theorem flagInstructionsAndNop : Obligations.FlagInstructionsAndNop :=
  ⟨setsFlags_of_exec rfl fun _ => rfl, setsFlags_of_exec rfl fun _ => rfl,
    setsFlags_of_exec rfl fun _ => rfl, setsFlags_of_exec rfl fun _ => rfl,
    setsFlags_of_exec rfl fun _ => rfl, setsFlags_of_exec rfl fun _ => rfl,
    setsFlags_of_exec rfl fun _ => rfl, setsFlags_of_exec rfl fun _ => rfl⟩

end Sys2Proof.Machine
end

section
/-! PROOFS. Branches, jumps, subroutines, BRK's own step and RTI (46_control_transfer.md R210 to R223). -/

namespace Sys2Proof.Machine

/-! Branches (R210 to R218). -/

/-- The displacement is signed and counts from pc + 2; the sum is taken modulo 65536 (R210, D17). -/
theorem add_sext16_eq_ofInt (w : Word) (rel : Byte) :
    w + 2 + sext16 rel = BitVec.ofInt 16 ((w.toNat : Int) + 2 + rel.toInt) := by
  rw [BitVec.ofInt_add, BitVec.ofInt_add, BitVec.ofInt_natCast, BitVec.ofNat_toNat, BitVec.setWidth_eq]
  rfl

/-- What the eight branches share: one condition on the flags, and pc alone is written. -/
theorem branches_of_exec {op : Byte} {mk : Byte → Instr} {cond : Flags → Bool}
    (henc : ∀ rel, encode (mk rel) = [op, rel])
    (hexec : ∀ rel s, exec (mk rel) s = .next (branch (cond s.p) rel s)) : Forms.Branches op mk cond := by
  intro rel s
  refine ⟨henc rel, ?_⟩
  rw [hexec, ← add_sext16_eq_ofInt]
  rfl

/-- Settles O38: each branch runs the shared `branch` on the flag it tests. -/
theorem branchesAddTheDisplacement : Obligations.BranchesAddTheDisplacement :=
  ⟨branches_of_exec (fun _ => rfl) fun _ _ => rfl, branches_of_exec (fun _ => rfl) fun _ _ => rfl,
    branches_of_exec (fun _ => rfl) fun _ _ => rfl, branches_of_exec (fun _ => rfl) fun _ _ => rfl,
    branches_of_exec (fun _ => rfl) fun _ _ => rfl, branches_of_exec (fun _ => rfl) fun _ _ => rfl,
    branches_of_exec (fun _ => rfl) fun _ _ => rfl, branches_of_exec (fun _ => rfl) fun _ _ => rfl⟩

/-! Jumps (R219). -/

/-- Settles O39: the absolute form loads its operand, the indirect form the word the flat read finds there (C1, D6). -/
theorem jumpsLoadPc : Obligations.JumpsLoadPc := by
  intro w s
  have hnext : w + 1 = BitVec.ofNat 16 (w.toNat + 1) := by bv_omega
  have hind : exec (.jmpInd w) s = .next (s.setPc (s.memRead16 w)) := rfl
  refine ⟨encode_word rfl, rfl, encode_word rfl, ?_⟩
  rw [hind, State.memRead16_eq_ofNat, hnext]
  rfl

/-! Subroutines (R220, R221). -/

/-- Settles O40: the pushed word is pc + 2 modulo 65536, and its two bytes are written below S. -/
theorem jsrPushesItsLastAddress : Obligations.JsrPushesItsLastAddress := by
  intro w s ret page
  have hret : (s.pc + 2).toNat = ret := BitVec.toNat_add s.pc 2
  have hexec : exec (.jsr w) s = .next ((s.push16 (s.pc + 2)).setPc w) := rfl
  refine ⟨encode_word rfl, ?_⟩
  rw [hexec, State.push16_eq]
  simp only [stackAddr_eq_ofNat, sp_sub_toNat, hiByte_eq_ofNat, loByte_eq_ofNat, hret]
  rfl

/-- An offset from the S that a pop leaves is one more from the S before it, modulo 256 (R62). -/
theorem State.popped8_sp_add_mod (s : State) (k : Nat) : (s.popped8.sp.toNat + k) % 256 = (s.sp.toNat + (k + 1)) % 256 := by
  have hsp : s.popped8.sp.toNat = (s.sp.toNat + 1) % 256 := BitVec.toNat_add s.sp 1
  rw [hsp]
  omega

/-- The addresses of the two bytes of a popped word in the numbers of the spec, low byte first (R64). -/
theorem State.popWord_eq (s : State) :
    let page := s.cfg.stackPage.toNat * 256
    let lo := s.memRead (BitVec.ofNat 16 (page + (s.sp.toNat + 1) % 256))
    let hi := s.memRead (BitVec.ofNat 16 (page + (s.sp.toNat + 2) % 256))
    s.popWord = BitVec.ofNat 16 (hi.toNat * 256 + lo.toNat) := by
  intro page lo hi
  have hlo : s.popByte = lo := s.popByte_eq
  have hhi : s.popped8.popByte = hi := by
    rw [State.popByte_eq, State.popped8_sp_add_mod]
    rfl
  rw [State.popWord, hlo, hhi, leWord_eq_ofNat]

/-- Settles O41: S moves by 2, and pc is the popped word plus 1. -/
theorem rtsPopsAndAddsOne : Obligations.RtsPopsAndAddsOne := by
  intro s page lo hi
  have hexec : exec .rts s = .next (s.popped16.setPc (s.popWord + 1)) := rfl
  have hword : s.popWord + 1 = BitVec.ofNat 16 (hi.toNat * 256 + lo.toNat + 1) := by
    rw [State.popWord_eq]
    exact (BitVec.ofNat_add _ 1).symm
  refine ⟨rfl, ?_⟩
  rw [hexec, State.popped16_eq, hword]
  rfl

/-- RTS finds above S the word that JSR pushed there, its own address plus 2 (R220, R221). -/
theorem returnSub_jumpSub (w : Word) {s : State} (h : s.cfg.stackPage.toNat * 256 + 255 < s.cfg.memSize) :
    returnSub (jumpSub w s) = { s.push16 (s.pc + 2) with sp := s.sp, pc := s.pc + 3 } := by
  have hword : (jumpSub w s).popWord = s.pc + 2 := State.popWord_push16 _ h
  have hsp : (jumpSub w s).popped16.sp = s.sp := s.sp_popped16_push16 _
  have hpc : s.pc + 2 + 1 = s.pc + 3 := by bv_omega
  rw [returnSub, hword, hpc, ← hsp]
  rfl

/-- Settles O44: after both, only pc and the two bytes of the push differ. -/
theorem jsrThenRtsReturns : Obligations.JsrThenRtsReturns := by
  intro w s t u hpage hjsr hrts
  have ht : jumpSub w s = t := Host.Outcome.next.inj hjsr
  have hu : returnSub t = u := Host.Outcome.next.inj hrts
  have hmem : ∀ a : Word, a ∉ Forms.storedTo (.jsr w) s → u.memRead a = s.memRead a := fun a ha =>
    (memoryFrame .rts t u hrts a List.not_mem_nil).trans (memoryFrame (.jsr w) s t hjsr a ha)
  obtain ⟨ha, hx, hy, -, hirq, hdraws, hcfg, hhalted, hcyc⟩ := sameRegisters_push16 s (s.pc + 2)
  have hp : (s.push16 (s.pc + 2)).p = s.p := by simp [State.push16]
  rw [← ht, returnSub_jumpSub w hpage] at hu
  subst hu
  exact ⟨rfl, rfl, ha, hx, hy, hp, hcfg, hirq, hhalted, hcyc, hdraws, hmem⟩

/-! BRK's own step (R222, R248). -/

/-- No kind outranks BRK, so a pending BRK stays (R248, D14). -/
theorem State.request_of_brk {s : State} {v : Word} (k : IrqKind) (h : s.irqReq = some ⟨.brk, v⟩) :
    s.request k = s := by
  cases k <;> simp [State.request, h, IrqKind.rank]

/-- BRK outranks every other kind (R248, D14). -/
theorem State.request_brk_of_not_brk {s : State} (h : ∀ v, s.irqReq ≠ some ⟨.brk, v⟩) :
    s.request .brk = s.setIrqReq (some ⟨.brk, s.cfg.vecIrq⟩) := by
  cases hslot : s.irqReq with
  | none => simp [State.request, hslot, HwConfig.vector]
  | some r =>
    obtain ⟨kind, v⟩ := r
    cases kind with
    | irq | nmi => simp [State.request, hslot, IrqKind.rank, HwConfig.vector]
    | brk => exact absurd hslot (h v)

/-- Settles O42: pc moves by 2 whatever the padding byte is, and the request yields only to a BRK in the slot. -/
theorem brkRequestsAndSkipsItsPad : Obligations.BrkRequestsAndSkipsItsPad := by
  intro pad s
  have hexec : exec (.brk pad) s = .next ((s.advance 2).request .brk) := rfl
  refine ⟨rfl, ?_⟩
  rw [hexec]
  split
  · next v hslot =>
    rw [State.request_of_brk (s := s.advance 2) .brk hslot, ← hslot]
    rfl
  · next hslot =>
    rw [State.request_brk_of_not_brk (s := s.advance 2) hslot]
    rfl

/-! RTI (R223). -/

/-- RTI writes S, the flags from the byte popped first, and pc with the word popped after it. -/
theorem returnInterrupt_eq (s : State) :
    returnInterrupt s = { s with sp := s.sp + 3, p := Flags.ofByte s.popByte, pc := s.popped8.popWord } := by
  have hsp : s.sp + 1 + 1 + 1 = s.sp + 3 := by bv_omega
  rw [← hsp]
  rfl

/-- Settles O43: the three bytes are those at S + 1, S + 2 and S + 3. -/
theorem rtiPopsFlagsThenPc : Obligations.RtiPopsFlagsThenPc := by
  intro s page v lo hi
  have hexec : exec .rti s = .next (returnInterrupt s) := rfl
  have hv : s.popByte = v := s.popByte_eq
  have hword : s.popped8.popWord = BitVec.ofNat 16 (hi.toNat * 256 + lo.toNat) := by
    rw [State.popWord_eq, State.popped8_sp_add_mod, State.popped8_sp_add_mod]
    rfl
  refine ⟨rfl, ?_⟩
  rw [hexec, returnInterrupt_eq, hword, hv]
  rfl

end Sys2Proof.Machine
end

section
/-! PROOFS. What the next step does (R249, R250): BRK in two steps (R259), RTI after an entry (R256), and the end of a run
(R299). -/

namespace Sys2Proof.Machine

/-! The tests of a step in their order (R249, R250). -/

theorem State.due_eq_none_iff {s : State} : s.due = none ↔ Forms.NothingDue s := by
  refine ⟨fun h => ?_, State.due_eq_none⟩
  cases hslot : s.irqReq with
  | none => exact .inl hslot
  | some r =>
    have hmasked : serviceable s.p r = false := by simpa [State.due, hslot] using h
    obtain ⟨kind, v⟩ := r
    cases kind with
    | irq => exact .inr ⟨_, hslot, rfl, by simpa [serviceable] using hmasked⟩
    | nmi | brk => cases hmasked

theorem State.choice_eq_run_iff {s : State} {i : Instr} :
    s.choice = .run i ↔ s.halted = false ∧ s.due = none ∧ ∃ rest, decode s.fetchBytes = .instr i rest := by
  cases hhalted : s.halted with
  | true => simp [State.choice, hhalted]
  | false =>
    cases hdue : s.due with
    | some r => simp [State.choice, hhalted, hdue]
    | none => cases hdec : decode s.fetchBytes <;> simp [State.choice, hhalted, hdue, hdec]

theorem step_of_choice_run {s t : State} {i : Instr} (hc : s.choice = .run i) (h : exec i s = .next t) :
    step s = .next (t.setCyc (t.cyc + cycleCost i s)) := by
  simp only [step, hc, h, retire]

theorem step_of_due {s : State} {r : Request} (hhalted : s.halted = false) (hdue : s.due = some r) :
    step s = .next (service r s) := by
  simp [step, State.choice, hhalted, hdue]

/-! BRK in two steps (R222, R259). -/

/-- The byte 0 at pc is BRK, with the byte behind it as padding. -/
theorem State.choice_eq_run_brk {s : State} (hhalted : s.halted = false) (hslot : s.irqReq = none)
    (hbyte : s.memRead s.pc = 0) : s.choice = .run (.brk (s.memRead (s.pc + 1))) := by
  have hfetch : s.fetchBytes = encode (.brk (s.memRead (s.pc + 1))) ++ [s.memRead (s.pc + 2)] := by
    rw [State.fetchBytes, hbyte]
    rfl
  refine State.choice_eq_run_iff.mpr ⟨hhalted, State.due_eq_none (.inl hslot), [s.memRead (s.pc + 2)], ?_⟩
  rw [hfetch, decodeOfEncodeIsTheInstruction]

/-- Settles O47: the first step leaves BRK's request in the empty slot, and BRK is serviceable whatever I is. -/
theorem brkTakesTwoSteps : Obligations.BrkTakesTwoSteps := by
  intro s hhalted hslot hbyte
  have hreq : (s.advance 2).request .brk = (s.advance 2).setIrqReq (some ⟨.brk, s.cfg.vecIrq⟩) :=
    State.request_brk_of_not_brk fun v => by simp [hslot]
  have hfirst := step_of_choice_run (State.choice_eq_run_brk hhalted hslot hbyte) (congrArg Host.Outcome.next hreq)
  exact ⟨_, hfirst, rfl, rfl, rfl, rfl, step_of_due hhalted rfl⟩

/-! RTI after an entry (R256). -/

/-- A push leaves the two bytes above it for the word popped next. -/
theorem State.popWord_popped8_push8 (s : State) (v : Byte) : (s.push8 v).popped8.popWord = s.popWord := by
  have hne : stackAddr s.cfg.stackPage (s.sp + 1 + 1) ≠ stackAddr s.cfg.stackPage s.sp := by
    intro h
    have := stackAddr_inj h
    bv_omega
  have hhi : (s.push8 v).popped8.popped8.popByte = s.popped8.popByte := by
    simp only [State.popByte, State.popped8_cfg, State.popped8_sp, State.push8_cfg, State.push8_sp,
      BitVec.sub_add_cancel, State.memRead_popped8, State.memRead_push8]
    exact s.memRead_memWrite_other v hne
  rw [State.popWord, State.popByte_popped8_push8, hhi, State.popWord]

/-- Pops read the memory array, the configuration and S alone. -/
theorem State.popByte_congr {s t : State} (hm : t.mem = s.mem) (hc : t.cfg = s.cfg) (hsp : t.sp = s.sp) :
    t.popByte = s.popByte := by
  rw [State.popByte, hc, hsp, State.memRead_congr hm hc, State.popByte]

theorem State.popWord_congr {s t : State} (hm : t.mem = s.mem) (hc : t.cfg = s.cfg) (hsp : t.sp = s.sp) :
    t.popWord = s.popWord := by
  have hpopped : t.popped8.sp = s.popped8.sp := congrArg (· + 1) hsp
  have hhi : t.popped8.popByte = s.popped8.popByte := State.popByte_congr hm hc hpopped
  rw [State.popWord, State.popByte_congr hm hc hsp, hhi, State.popWord]

/-- What an entry leaves for the pops: the flag byte pushed over the word of pc (R251). -/
def entryPushes (r : Request) (s : State) : State := (s.push16 s.pc).push8 (s.p.toByte (decide (r.kind = .brk)))

theorem service_stack (r : Request) (s : State) :
    (service r s).mem = (entryPushes r s).mem ∧ (service r s).cfg = (entryPushes r s).cfg ∧
      (service r s).sp = (entryPushes r s).sp := by
  simp [service, entryPushes]

theorem popByte_service (r : Request) {s : State} (h : s.cfg.stackPage.toNat * 256 + 255 < s.cfg.memSize) :
    (service r s).popByte = s.p.toByte (decide (r.kind = .brk)) := by
  obtain ⟨hmem, hcfg, hsp⟩ := service_stack r s
  rw [State.popByte_congr hmem hcfg hsp, entryPushes]
  exact State.popByte_push8 _ (State.backed_stackAddr (by simpa [State.push16] using h) _)

theorem popWord_popped8_service (r : Request) {s : State} (h : s.cfg.stackPage.toNat * 256 + 255 < s.cfg.memSize) :
    (service r s).popped8.popWord = s.pc := by
  obtain ⟨hmem, hcfg, hsp⟩ := service_stack r s
  have hword : (service r s).popped8.popWord = (entryPushes r s).popped8.popWord :=
    State.popWord_congr hmem hcfg (congrArg (· + 1) hsp)
  rw [hword, entryPushes, State.popWord_popped8_push8, State.popWord_push16 _ h]

theorem service_sp (r : Request) (s : State) : (service r s).sp = s.sp - 3 := by
  rw [servicePushesAndVectors]

/-- Settles O48: RTI pops the flag byte and then pc, and S is back after three pops. -/
theorem rtiReversesService : Obligations.RtiReversesService := by
  intro r s t hpage hrti
  obtain ⟨ha, hx, hy, -, -, -⟩ := service_keeps r s
  have ht : returnInterrupt (service r s) = t := Host.Outcome.next.inj hrti
  rw [returnInterrupt_eq, popByte_service r hpage, popWord_popped8_service r hpage, service_sp, BitVec.sub_add_cancel,
    Flags.ofByte_toByte] at ht
  subst ht
  exact ⟨rfl, rfl, rfl, ha, hx, hy⟩

/-! Final states (R299). -/

/-- From the base pc + 2 a branch reaches itself by the displacement -2 alone (D17). -/
theorem add_sext16_eq_self_iff (w : Word) (rel : Byte) : w + 2 + sext16 rel = w ↔ rel = 0xFE := by
  have hdisp : ∀ b : Byte, 2 + sext16 b = 0 ↔ b = 0xFE := by decide
  rw [BitVec.add_assoc, add_eq_left, hdisp]

/-- The test of `closesAt` for a branch, with what its flag test says. -/
theorem branchCloses_iff {cond : Bool} {taken : Prop} (hcond : cond = true ↔ taken) (w : Word) (rel : Byte) :
    (cond && (w + 2 + sext16 rel == w)) = true ↔ rel = 0xFE ∧ taken := by
  rw [Bool.and_eq_true, beq_iff_eq, add_sext16_eq_self_iff, hcond, and_comm]

theorem closesAt_pc_iff {s : State} {i : Instr} : closesAt s.pc s i = true ↔ Forms.JumpsToItself i s := by
  cases i with
  | jmpAbs | jmpInd => exact beq_iff_eq
  | bcs | beq | bmi | bvs => exact branchCloses_iff Iff.rfl _ _
  | bcc | bne | bpl | bvc => exact branchCloses_iff (Bool.not_eq_true' _).to_iff _ _
  | _ => exact iff_of_false Bool.false_ne_true id

/-- R299 as the two tests of the predicate: the step runs an instruction at `done`, and that instruction closes there. -/
theorem State.finalAt_eq_true_iff {s : State} {done : Word} :
    s.finalAt done = true ↔ s.pc = done ∧ ∃ i, s.choice = .run i ∧ Forms.JumpsToItself i s := by
  have hclose : s.finalAt done = true ↔ s.pc = done ∧ ∃ i, s.choice = .run i ∧ closesAt done s i = true := by
    cases hc : s.choice <;> simp [State.finalAt, hc]
  rw [hclose]
  refine and_congr_right fun hpc => ?_
  subst hpc
  simp only [closesAt_pc_iff]

theorem branch_neg_two {cond : Bool} (h : cond = true) (s : State) : branch cond 0xFE s = s := by
  have hpc : s.pc + 2 + sext16 0xFE = s.pc := (add_sext16_eq_self_iff s.pc 0xFE).mpr rfl
  rw [branch, if_pos h, hpc]
  rfl

/-- A jump or a taken branch to itself changes nothing. -/
theorem exec_of_jumpsToItself {i : Instr} {s : State} (h : Forms.JumpsToItself i s) : exec i s = .next s := by
  cases i with
  | jmpAbs | jmpInd => exact congrArg (fun w => Host.Outcome.next (s.setPc w)) h
  | bcc | bcs | beq | bne | bmi | bpl | bvc | bvs =>
    obtain ⟨rfl, hflag⟩ := h
    exact congrArg Host.Outcome.next (branch_neg_two (by simp [hflag]) s)
  | _ => cases h

/-- The counter of cycles plays no part in the end of a run (R300). -/
theorem State.finalAt_setCyc (s : State) (n : Nat) (done : Word) : (s.setCyc n).finalAt done = s.finalAt done := rfl

/-- Settles O59: a final state is one whose step runs an instruction that leads back to it, and so charges cycles alone. -/
theorem finalStateStaysFinal : Obligations.FinalStateStaysFinal := by
  refine ⟨fun s done => ?_, fun s done h => ?_⟩
  · rw [State.finalAt_eq_true_iff]
    simp only [State.choice_eq_run_iff, State.due_eq_none_iff]
    constructor
    · rintro ⟨hpc, i, ⟨hhalted, hnone, rest, hdec⟩, hself⟩
      exact ⟨hpc, hhalted, hnone, i, rest, hdec, hself⟩
    · rintro ⟨hpc, hhalted, hnone, i, rest, hdec, hself⟩
      exact ⟨hpc, i, ⟨hhalted, hnone, rest, hdec⟩, hself⟩
  · obtain ⟨-, i, hrun, hself⟩ := State.finalAt_eq_true_iff.mp h
    exact ⟨_, step_of_choice_run hrun (exec_of_jumpsToItself hself), rfl, (s.finalAt_setCyc _ done).trans h⟩

end Sys2Proof.Machine
end

section
/-! PROOFS. The outcomes of a dispatch step and their reports: entry, instruction, decode error, halted (R17, R241, R242, R249,
R250). -/

namespace Sys2Proof.Machine

/-! What each choice means for `step` and `dispatch`. -/

theorem serviceable_eq_true_iff {p : Flags} {r : Request} :
    serviceable p r = true ↔ r.kind = .nmi ∨ r.kind = .brk ∨ (r.kind = .irq ∧ p.i = false) := by
  cases hk : r.kind <;> simp [serviceable, hk]

theorem State.due_eq_some_iff {s : State} {r : Request} :
    s.due = some r ↔ s.irqReq = some r ∧ serviceable s.p r = true := by
  refine ⟨State.due_eq_some, fun ⟨hslot, hserviceable⟩ => ?_⟩
  simp [State.due, hslot, hserviceable]

theorem dispatch_of_due {s : State} {r : Request} (hhalted : s.halted = false) (hdue : s.due = some r) :
    dispatch s = (service r s, .serviced r.kind) := by
  simp [dispatch, State.choice, hhalted, hdue]

theorem dispatch_of_choice_run {s t : State} {i : Instr} (hc : s.choice = .run i) (h : exec i s = .next t) :
    dispatch s = (t.setCyc (t.cyc + cycleCost i s), .executed i.mnemonic) := by
  simp only [dispatch, hc, h, retire]

/-- A byte of the list of R85 is rejected whatever the two bytes behind it are. -/
theorem State.choice_eq_illegal {s : State} (hhalted : s.halted = false) (hdue : s.due = none)
    (hbyte : s.memRead s.pc ∈ illegalOpcodes) : s.choice = .illegal s.pc (s.memRead s.pc) := by
  have hdec : decode s.fetchBytes = .reject (.illegalOpcode (s.memRead s.pc)) :=
    decode_of_bad (opcodeCell_eq_bad_of_illegal hbyte) _
  simp [State.choice, hhalted, hdue, hdec]

/-- From a running core a decode error sets the latch to the mode (R241, D15). -/
theorem State.afterDecodeError_of_not_halted {s : State} (hhalted : s.halted = false) :
    s.afterDecodeError = s.setHalted s.cfg.decodeStrict := by
  cases hstrict : s.cfg.decodeStrict with
  | true => simp [State.afterDecodeError, hstrict]
  | false =>
    rw [← hhalted]
    simp [State.afterDecodeError, hstrict, State.setHalted]

theorem State.choice_eq_halted {s : State} (hhalted : s.halted = true) : s.choice = .halted := by
  simp [State.choice, hhalted]

/-- Settles O6: the choice of the step is to run `i`, and `retire` charges the cost. -/
theorem stepRunsTheDecodedInstruction : Obligations.StepRunsTheDecodedInstruction := by
  intro s t i rest hhalted hnone hdec hexec
  have hrun : s.choice = .run i := State.choice_eq_run_iff.mpr ⟨hhalted, State.due_eq_none hnone, rest, hdec⟩
  exact ⟨step_of_choice_run hrun hexec, dispatch_of_choice_run hrun hexec⟩

/-- Settles O7: the request is due, and the slot is tested before the opcode. -/
theorem serviceableRequestIsEntered : Obligations.ServiceableRequestIsEntered := by
  intro s r hhalted hslot hkind
  have hdue : s.due = some r := State.due_eq_some_iff.mpr ⟨hslot, serviceable_eq_true_iff.mpr hkind⟩
  exact ⟨step_of_due hhalted hdue, dispatch_of_due hhalted hdue⟩

/-- Settles O8: the choice of the step is the decode error, and the latch, clear before, takes the mode. -/
theorem illegalByteIsADecodeError : Obligations.IllegalByteIsADecodeError := by
  intro s hhalted hnone hbyte
  have hillegal := State.choice_eq_illegal hhalted (State.due_eq_none hnone) hbyte
  refine ⟨by simp only [step, hillegal], ?_⟩
  simp only [dispatch, hillegal, State.afterDecodeError_of_not_halted hhalted]
  rfl

/-! The halted latch under the operations of the host (R242, R280, R283). -/

@[simp] theorem State.resetOp_halted (s : State) : s.resetOp.halted = false := rfl

/-- Reset, alone or at the end of a Load, clears the latch, and no other host operation touches it. -/
theorem hostOp_halted (s : State) (op : HostOp) : (op.apply s).halted = match op with
    | .reset | .load _ _ => false
    | _ => s.halted := by
  cases op with
  | reset => exact s.resetOp_halted
  | load image offset => exact State.resetOp_halted _
  | raise nmi => exact s.request_halted _
  | poke a v => exact s.memWrite_halted a v
  | pokeWord a w => exact (State.memWrite_halted _ _ _).trans (s.memWrite_halted a _)
  | push8 v => exact s.push8_halted v
  | push16 w => exact (State.push8_halted _ _).trans (s.push8_halted _)
  | _ => rfl

/-- Settles O9: the latch is tested first, and Reset is all that clears it. -/
theorem haltedUntilReset : Obligations.HaltedUntilReset := by
  refine ⟨fun s hhalted => ?_, fun s op hhalted => ?_⟩
  · simp only [step, dispatch, State.choice_eq_halted hhalted, and_self]
  · rw [hostOp_halted]
    split
    · simp
    · simp
    · next hreset hload =>
      refine iff_of_false (by simp [hhalted]) ?_
      rintro (h | ⟨image, offset, h⟩)
      · exact hreset h
      · exact hload image offset h

end Sys2Proof.Machine
end

section
/-! PROOFS. The collision policy of the request slot (R247, R248). -/

namespace Sys2Proof.Machine

theorem State.request_of_empty {s : State} (k : IrqKind) (h : s.irqReq = none) :
    s.request k = s.setIrqReq (some ⟨k, s.cfg.vector k⟩) := by
  simp [State.request, h]

/-- Into an occupied slot a request is placed exactly when its kind outranks the kind there (D14). -/
theorem State.request_over {s : State} {r : Request} (k : IrqKind) (h : s.irqReq = some r) :
    s.request k = if r.kind.rank < k.rank then s.setIrqReq (some ⟨k, s.cfg.vector k⟩) else s := by
  simp [State.request, h]

theorem IrqKind.irq_rank_lt_iff (k : IrqKind) : IrqKind.irq.rank < k.rank ↔ ¬ k = .irq := by
  cases k <;> decide

theorem IrqKind.nmi_rank_lt_iff (k : IrqKind) : IrqKind.nmi.rank < k.rank ↔ k = .brk := by
  cases k <;> decide

/-- Settles O45: the ranks of the kinds, pair by pair. -/
theorem requestCollisionPolicy : Obligations.RequestCollisionPolicy := by
  intro s k new
  have hnew : some ⟨k, s.cfg.vector k⟩ = new := by cases k <;> rfl
  refine ⟨fun h => ?_, fun v h => ?_, fun v h => ?_, fun v h => State.request_of_brk k h, fun nmi => rfl⟩
  · rw [State.request_of_empty k h, hnew]
    rfl
  · simp only [State.request_over k h, hnew, IrqKind.irq_rank_lt_iff, ite_not]
    rfl
  · simp only [State.request_over k h, hnew, IrqKind.nmi_rank_lt_iff]
    rfl

end Sys2Proof.Machine
end

section
/-! PROOFS. Construction, Reset and Load (R243, R280 to R283). -/

namespace Sys2Proof.Machine

/-! Construction and Reset. -/

theorem construct_eq_none_iff {n : Nat} {c : HwConfig} {u : PowerOn} : construct n c u = none ↔ n = 0 := by
  simp [construct]

/-- Settles O50: the constructed core is written out in the definition, and its memory lists nothing. -/
theorem constructionClampsTheSize : Obligations.ConstructionClampsTheSize := by
  refine fun n c u => ⟨construct_eq_none_iff, fun s h => ?_⟩
  obtain ⟨hn, -, -, -⟩ := construct_eq_some h
  rw [construct, if_neg hn] at h
  cases h
  exact ⟨rfl, rfl, rfl, rfl, State.memRead_of_mem_nil rfl, rfl, rfl, rfl, rfl, rfl, rfl⟩

/-- Settles O49: the four updates of Reset, with the vector's word as a number. -/
theorem resetWritesOnlyPcSIAndHalted : Obligations.ResetWritesOnlyPcSIAndHalted := by
  intro s
  rw [← State.memRead16_eq_ofNat]
  rfl

/-! Load: the bytes it stores and the bytes it leaves (R283). -/

theorem State.memWrite_eq_setMem (s : State) (w : Word) (v : Byte) : ∃ m, s.memWrite w v = s.setMem m := by
  cases hb : s.backed w with
  | true => exact ⟨s.mem.set w.toNat v, by simp [State.memWrite, hb]⟩
  | false => exact ⟨s.mem, State.memWrite_of_unbacked v hb⟩

/-- The copy of an image touches memory and nothing else. -/
theorem State.loadBytes_eq_setMem (s : State) (w : Word) (bs : List Byte) : ∃ m, s.loadBytes w bs = s.setMem m := by
  induction bs generalizing s w with
  | nil => exact ⟨s.mem, rfl⟩
  | cons b rest ih =>
    obtain ⟨m, hm⟩ := s.memWrite_eq_setMem w b
    obtain ⟨m', hm'⟩ := ih (s.memWrite w b) (w + 1)
    refine ⟨m', ?_⟩
    rw [State.loadBytes, hm', hm]
    rfl

/-- An image that ends by 65536 leaves the bytes below and above it. -/
theorem State.memRead_loadBytes_outside {s : State} {w a : Word} {bs : List Byte} (hfit : w.toNat + bs.length ≤ 65536)
    (ha : a.toNat < w.toNat ∨ w.toNat + bs.length ≤ a.toNat) : (s.loadBytes w bs).memRead a = s.memRead a := by
  induction bs generalizing s w with
  | nil => rfl
  | cons b rest ih =>
    rw [List.length_cons] at hfit ha
    have hnext : (w + 1).toNat = (w.toNat + 1) % 65536 := BitVec.toNat_add w 1
    have hne : a ≠ w := by
      rintro rfl
      omega
    rw [State.loadBytes, ih (by omega) (by omega), State.memRead_memWrite_other s b hne]

/-- Byte `k` of an image that ends by 65536 is stored at the address `k` above the first one, where that is backed. -/
theorem State.memRead_loadBytes_inside {s : State} {w a : Word} {bs : List Byte} {k : Nat} {b : Byte}
    (hfit : w.toNat + bs.length ≤ 65536) (hb : bs[k]? = some b) (ha : a.toNat = w.toNat + k) (hbacked : s.backed a = true) :
    (s.loadBytes w bs).memRead a = b := by
  induction bs generalizing s w k with
  | nil => cases hb
  | cons b' rest ih =>
    rw [List.length_cons] at hfit
    have hnext : (w + 1).toNat = (w.toNat + 1) % 65536 := BitVec.toNat_add w 1
    cases k with
    | zero =>
      cases hb
      obtain rfl : a = w := BitVec.eq_of_toNat_eq ha
      rw [State.loadBytes, State.memRead_loadBytes_outside (by omega) (by omega), State.memRead_memWrite_of_backed b hbacked]
    | succ k =>
      rw [List.getElem?_cons_succ] at hb
      obtain ⟨hk, -⟩ := List.getElem?_eq_some_iff.mp hb
      exact ih (by omega) hb (by omega) ((s.backed_memWrite w a b').trans hbacked)

/-- What Load copies ends by 65536 (D21). -/
theorem toNat_add_length_take_le (offset : Word) (image : List Byte) :
    offset.toNat + (image.take (65536 - offset.toNat)).length ≤ 65536 := by
  rw [List.length_take]
  omega

theorem State.memRead_load_inside {s : State} {image : List Byte} {offset a : Word} {k : Nat} {b : Byte}
    (hb : image[k]? = some b) (ha : a.toNat = offset.toNat + k) (hbacked : s.backed a = true) :
    (s.load image offset).memRead a = b := by
  have hcopied : (image.take (65536 - offset.toNat))[k]? = some b := by
    rw [List.getElem?_take_of_lt (by omega), hb]
  exact State.memRead_loadBytes_inside (toNat_add_length_take_le offset image) hcopied ha hbacked

theorem State.memRead_load_outside {s : State} {image : List Byte} {offset a : Word}
    (ha : a.toNat < offset.toNat ∨ offset.toNat + image.length ≤ a.toNat) :
    (s.load image offset).memRead a = s.memRead a := by
  have hout : a.toNat < offset.toNat ∨ offset.toNat + (image.take (65536 - offset.toNat)).length ≤ a.toNat := by
    rw [List.length_take]
    omega
  exact State.memRead_loadBytes_outside (toNat_add_length_take_le offset image) hout

/-- Settles O51: Load is a Reset of the state that holds the copied bytes, and Reset leaves memory alone. -/
theorem loadCopiesTheImageAndResets : Obligations.LoadCopiesTheImageAndResets := by
  intro s image offset t
  refine ⟨⟨s.loadBytes offset (image.take (65536 - offset.toNat)), rfl, fun a => rfl, ?_⟩, fun k b hb hk hsize => ?_,
    fun a ha => State.memRead_load_outside ha⟩
  · obtain ⟨m, hm⟩ := s.loadBytes_eq_setMem offset (image.take (65536 - offset.toNat))
    simp [hm]
  · have haddr : (BitVec.ofNat 16 (offset.toNat + k)).toNat = offset.toNat + k := by
      rw [BitVec.toNat_ofNat, Nat.mod_eq_of_lt hk]
    have hbacked : s.backed (BitVec.ofNat 16 (offset.toNat + k)) = true := by
      rw [State.backed_eq_true_iff, haddr]
      exact hsize
    exact State.memRead_load_inside hb haddr hbacked

end Sys2Proof.Machine
end
